-- ==== Sys2Proof/Word.lean ====
section
/-! DEFINITION. The byte and the plainest byte arrays (`00_scope.md` R8). -/

namespace Sys2Proof

/-- A byte is 8 bits, bit 0 the least significant (R8). -/
abbrev Byte := BitVec 8

/-- `zeros(n)`: `n` bytes of 0x00 (R8). -/
def zeros (n : Nat) : List Byte := List.replicate n 0x00#8

@[simp] theorem zeros_length (n : Nat) : (zeros n).length = n := List.length_replicate

@[simp] theorem zeros_zero : zeros 0 = [] := rfl

/-- Byte `i` of a byte array; 0x00 past its end (DESIGN CHOICE, log 23), which no rule reads in this hardware. -/
def byteAt (a : List Byte) (i : Nat) : Byte := a.getD i 0x00#8

end Sys2Proof
end

