-- ==== Sys2Proof/Config.lean ====
section
/-! DEFINITION. The configuration of `00_scope.md` R6 (read-only storage, `10_state.md` R41): the whole table as one
record, its default value, the quantities derived from it, which configurations are valid (R7) and which ones the
registers of State hold. -/

namespace Sys2Proof

/-- The parameters of R6, one field a row, and the file-name table that R41 counts with them; the rows that R6 derives
from others are functions below. -/
structure Config where
  /-- `BLK`: bytes per logical block. -/
  blk : Nat
  /-- `MAGIC_LEN`: bytes of magic at block offset 0. -/
  magicLen : Nat
  /-- `SEC_PER_CLUS`: FAT sectors per cluster. Only the boot sector reads it (DESIGN CHOICE for other values than 1,
  log 20). -/
  secPerClus : Nat
  /-- `FAT_COPIES`: FAT copies. Only the boot sector reads it (DESIGN CHOICE for other values than 2, log 20). -/
  fatCopies : Nat
  /-- `CHUNK`: bytes per transport chunk on the write path. -/
  chunk : Nat
  /-- `FPC`: index of the first payload chunk. -/
  fpc : Nat
  /-- `PAGE`: target flash page size in bytes. -/
  page : Nat
  /-- `MAGIC`, in wire order. -/
  magic : List Byte
  /-- `OFF_SIZE`, inside chunk 1. -/
  offSize : Nat
  /-- `OFF_INDEX`, inside chunk 1. -/
  offIndex : Nat
  /-- `OFF_COUNT`, inside chunk 1. -/
  offCount : Nat
  /-- `ADDR_W`: bits of target address read. -/
  addrW : Nat
  /-- `META_W`: bits read of each metadata field, and the width of `expCount`. -/
  metaW : Nat
  /-- `BITMAP_CAP`: capacity of `bitmap` in block indices. -/
  bitmapCap : Nat
  /-- `UNSET`, the `expCount` code for "unset". -/
  unset : BitVec 32
  /-- `INDET`, the `expCount` code for "indeterminate". -/
  indet : BitVec 32
  /-- `CMD_LOAD_ADDRESS`. -/
  cmdLoadAddress : Byte
  /-- `CMD_PROG_PAGE`. -/
  cmdProgPage : Byte
  /-- `SYNC_EOP`. -/
  syncEop : Byte
  /-- `PP_TERM`, which ends the program-page header. -/
  ppTerm : Byte
  /-- `ACK_BYTE`. -/
  ackByte : Byte
  /-- `ACK_W`: bits of `ackCount`. -/
  ackW : Nat
  /-- `T_HS_WDT`: the bound on one handshake wait. No rule reads it (R56; log 12). -/
  tHsWdt : Nat
  /-- `T_DONE_WDT`: the period after completion. No rule reads it (R56; log 12). -/
  tDoneWdt : Nat
  /-- `T_RST_HOLD`: the reset-low hold time. No rule reads it (R56; log 12). -/
  tRstHold : Nat
  /-- `T_BOOT_DELAY`: the target bootloader's start-up delay. No rule reads it (R56; log 12). -/
  tBootDelay : Nat
  /-- `H2T_CAP`, capacity of the host-to-target ring. -/
  h2tCap : Nat
  /-- `T2H_CAP`, capacity of the target-to-host ring. -/
  t2hCap : Nat
  /-- `PKT`: bytes per HID packet. -/
  pkt : Nat
  /-- `HID_CNT_MASK`: the count bits of the framing byte. -/
  hidCntMask : Byte
  /-- `HID_FLAG`: the flag bit of the framing byte. -/
  hidFlag : Byte
  /-- `CMD_BININFO`. -/
  cmdBininfo : BitVec 32
  /-- `CMD_INFO`. -/
  cmdInfo : BitVec 32
  /-- `ST_OK`. -/
  stOk : Byte
  /-- `ST_INVALID`. -/
  stInvalid : Byte
  /-- `MODE_BOOTLOADER`. -/
  modeBootloader : BitVec 32
  /-- `FLASH_PAGES`. -/
  flashPages : Nat
  /-- `IDENT`. -/
  ident : List Byte
  /-- `INDEX_URL`. -/
  indexUrl : List Byte
  /-- `VOLUME_LABEL`, 11 bytes. -/
  volumeLabel : Vector Byte 11
  /-- The file-name table (`10_state.md` R41; `30_encoding.md` R117): row `i` is `FILE[i].name`, 11 bytes. -/
  fileNames : List (Vector Byte 11)
  /-- `NUM_INFO`: the number of exposed files. -/
  numInfo : Nat
  /-- `NUM_BLOCKS`. -/
  numBlocks : Nat
  /-- `RESERVED_SECTORS`. -/
  reservedSectors : Nat
  /-- `ROOT_DIR_SECTORS`. -/
  rootDirSectors : Nat
  /-- `VOL_SERIAL`. -/
  volSerial : BitVec 32
deriving DecidableEq, Repr

namespace Config

/-- `T_HS_WDT` of this hardware, OPEN in R6 (D19): a free value (log 12). -/
opaque hsWdtBound : Nat

/-- `T_DONE_WDT` of this hardware, OPEN in R6 (D19): a free value (log 12). -/
opaque doneWdtPeriod : Nat

/-- `T_RST_HOLD` of this hardware, OPEN in R6 (D19): a free value (log 12). -/
opaque resetHoldTime : Nat

/-- `T_BOOT_DELAY` of this hardware, OPEN in R6 (D19): a free value (log 12). -/
opaque bootDelayTime : Nat

/-- The identity string of R6 and `41_fat16_synth.md` R165. -/
def identBytes : List Byte :=
    [0x55, 0x46, 0x32, 0x20, 0x42, 0x6F, 0x6F, 0x74, 0x6C, 0x6F, 0x61, 0x64, 0x65, 0x72,
     0x20, 0x76, 0x31, 0x2E, 0x30, 0x0D, 0x0A, 0x4D, 0x6F, 0x64, 0x65, 0x6C, 0x3A, 0x20,
     0x41, 0x72, 0x64, 0x75, 0x69, 0x6E, 0x6F, 0x20, 0x55, 0x4E, 0x4F, 0x0D, 0x0A, 0x42,
     0x6F, 0x61, 0x72, 0x64, 0x2D, 0x49, 0x44, 0x3A, 0x20, 0x55, 0x4E, 0x4F, 0x0D, 0x0A]

/-- The redirect URL of R6. -/
def urlBytes : List Byte :=
    [0x68, 0x74, 0x74, 0x70, 0x73, 0x3A, 0x2F, 0x2F, 0x67, 0x69, 0x74, 0x68, 0x75, 0x62,
     0x2E, 0x63, 0x6F, 0x6D, 0x2F, 0x6D, 0x6D, 0x6F, 0x73, 0x6B, 0x61, 0x6C, 0x2F, 0x75,
     0x66, 0x32, 0x2D, 0x75, 0x6E, 0x6F]

/-- "INFO_UF2TXT" (`30_encoding.md` R117). -/
def infoName : Vector Byte 11 := #v[0x49, 0x4E, 0x46, 0x4F, 0x5F, 0x55, 0x46, 0x32, 0x54, 0x58, 0x54]

/-- "INDEX   HTM" (`30_encoding.md` R117). -/
def indexName : Vector Byte 11 := #v[0x49, 0x4E, 0x44, 0x45, 0x58, 0x20, 0x20, 0x20, 0x48, 0x54, 0x4D]

/-- The redirect page's text before the URL (`41_fat16_synth.md` R168). -/
def htmlHead : List Byte :=
    [0x3C, 0x21, 0x64, 0x6F, 0x63, 0x74, 0x79, 0x70, 0x65, 0x20, 0x68, 0x74, 0x6D, 0x6C,
     0x3E, 0x0A, 0x3C, 0x68, 0x74, 0x6D, 0x6C, 0x3E, 0x3C, 0x62, 0x6F, 0x64, 0x79, 0x3E,
     0x3C, 0x73, 0x63, 0x72, 0x69, 0x70, 0x74, 0x3E, 0x0A, 0x6C, 0x6F, 0x63, 0x61, 0x74,
     0x69, 0x6F, 0x6E, 0x2E, 0x72, 0x65, 0x70, 0x6C, 0x61, 0x63, 0x65, 0x28, 0x22]

/-- The redirect page's text after the URL (`41_fat16_synth.md` R168). -/
def htmlTail : List Byte :=
    [0x22, 0x29, 0x3B, 0x0A, 0x3C, 0x2F, 0x73, 0x63, 0x72, 0x69, 0x70, 0x74, 0x3E, 0x3C,
     0x2F, 0x62, 0x6F, 0x64, 0x79, 0x3E, 0x3C, 0x2F, 0x68, 0x74, 0x6D, 0x6C, 0x3E, 0x0A]

/-- The value column of R6: this hardware (DESIGN CHOICE of the spec's own, log 11). -/
def device : Config where
  blk := 512
  magicLen := 8
  secPerClus := 1
  fatCopies := 2
  chunk := 16
  fpc := 2
  page := 128
  magic := [0x55, 0x46, 0x32, 0x0A, 0x57, 0x51, 0x5D, 0x9E]
  offSize := 0
  offIndex := 4
  offCount := 8
  addrW := 16
  metaW := 32
  bitmapCap := 256
  unset := 0x00000000
  indet := 0xFFFFFFFF
  cmdLoadAddress := 0x55
  cmdProgPage := 0x64
  syncEop := 0x20
  ppTerm := 0x20
  ackByte := 0x10
  ackW := 8
  tHsWdt := hsWdtBound
  tDoneWdt := doneWdtPeriod
  tRstHold := resetHoldTime
  tBootDelay := bootDelayTime
  h2tCap := 128
  t2hCap := 128
  pkt := 64
  hidCntMask := 0x7F
  hidFlag := 0x80
  cmdBininfo := 0x00000001
  cmdInfo := 0x00000002
  stOk := 0x00
  stInvalid := 0x01
  modeBootloader := 0x00000001
  flashPages := 256
  ident := identBytes
  indexUrl := urlBytes
  volumeLabel := #v[0x55, 0x46, 0x32, 0x2D, 0x55, 0x4E, 0x4F, 0x20, 0x20, 0x20, 0x20]
  fileNames := [infoName, indexName]
  numInfo := 2
  numBlocks := 8000
  reservedSectors := 1
  rootDirSectors := 4
  volSerial := 0x00420042

variable (cfg : Config)

/-- `NCHUNK = BLK / CHUNK`. -/
def nchunk : Nat := cfg.blk / cfg.chunk

/-- `CPP = PAGE / CHUNK`. -/
def cpp : Nat := cfg.page / cfg.chunk

/-- `PAGE_SHIFT = log2(PAGE)`. -/
def pageShift : Nat := Nat.log2 cfg.page

/-- `MAX_MSG = PKT - 1`. -/
def maxMsg : Nat := cfg.pkt - 1

/-- `SECTORS_PER_FAT = ceil(NUM_BLOCKS * 2 / 512)`. -/
def sectorsPerFat : Nat := (cfg.numBlocks * 2 + 511) / 512

/-- `START_FAT0`. -/
def startFat0 : Nat := cfg.reservedSectors

/-- `START_FAT1`. -/
def startFat1 : Nat := cfg.startFat0 + cfg.sectorsPerFat

/-- `START_ROOTDIR`: after two FAT copies, as R73 and R161 have the region, also where `FAT_COPIES` is not 2 (DESIGN
CHOICE, log 20). -/
def startRootdir : Nat := cfg.startFat1 + cfg.sectorsPerFat

/-- `START_CLUSTERS`. -/
def startClusters : Nat := cfg.startRootdir + cfg.rootDirSectors

/-- `HTML` (`41_fat16_synth.md` R168). -/
def html : List Byte := htmlHead ++ cfg.indexUrl ++ htmlTail

/-- The validity conditions of R7, in its order and no others. A build-time obligation (`70_reset_and_hazards.md` R295).
The byte lengths that R6 states for the label and R117 for the file names are in their types. -/
def valid : Bool :=
  decide (cfg.blk % cfg.chunk = 0) && decide (14 ≤ cfg.chunk)
    && decide (2 ^ cfg.pageShift = cfg.page) && decide (cfg.page % cfg.chunk = 0)
    && decide (cfg.page ≤ (cfg.nchunk - cfg.fpc) * cfg.chunk)
    && decide (cfg.page / 2 < 2 ^ 16) && decide (cfg.page < 2 ^ 16)
    && decide (1 ≤ cfg.bitmapCap) && decide (21 ≤ cfg.pkt)
    && decide (cfg.ident.length ≤ cfg.pkt - 5) && decide (cfg.pkt - 1 ≤ cfg.hidCntMask.toNat)
    && decide (cfg.ident.length ≤ 512) && decide (cfg.html.length ≤ 512)
    && decide (cfg.numInfo * 2 + 4 ≤ 512) && decide (cfg.numInfo + 1 ≤ 16)
    && decide (cfg.unset ≠ cfg.indet) && decide (cfg.ackByte ≠ cfg.syncEop)

/-- The registers of State, which have the widths of `10_state.md` R21 to R29, hold every value that this configuration
gives them, and the payload follows the metadata chunk at once, as R133 has it; a narrower width is kept by the
operations (R8, log 11). -/
def fits : Bool :=
  decide (cfg.addrW ≤ 16) && decide (cfg.metaW ≤ 32) && decide (cfg.metaW - cfg.pageShift ≤ 25)
    && decide (cfg.bitmapCap ≤ 256) && decide (cfg.ackW ≤ 8) && decide (cfg.nchunk < 64)
    && decide (cfg.fpc = 2) && decide (cfg.hidCntMask.toNat < 128)

/-- The bytes of block `lba`, `0 < lba < START_FAT0`, of a volume with more than one reserved sector: R161 sends the read
to `Fat`, which R163 does not define there. A free value for each configuration and block (DESIGN CHOICE, log 17). -/
opaque reservedBlock : Config → BitVec 32 → Vector Byte 512

/-- The name of a file for which the file-name table has no row. A free value (DESIGN CHOICE, log 18). -/
opaque otherFileName : Config → Nat → Vector Byte 11

/-- The content of a file after the two of R167, cut to the one cluster that a file fits (R7). A free value (DESIGN CHOICE,
log 18). -/
opaque otherFileContent : Config → Nat → List Byte

end Config

/-- The cause of a reboot (`60_exceptions.md` R262), a marker of the model on `sysOut` (R265). -/
inductive Cause where
  /-- A handshake was not answered (R263). -/
  | hsTimeout
  /-- A transfer is complete (R264). -/
  | done
  /-- Power-on or external reset (R290). -/
  | por
deriving DecidableEq, Repr

end Sys2Proof
end

