-- ==== Sys2Proof/Syntax.lean ====
section
/-! DEFINITION. The operations of `30_encoding.md` R92 and the emitted units, one constructor per row of
spec/opcode_table.json. An operand is what the row's fields name; a chunk or a block is kept whole, because
`chunkBuf` and `blkData` hold it whole (`10_state.md` R21). -/

namespace Sys2Proof

/-- One atomic operation of the device (`00_scope.md` R11), or one unit that an operation emits. -/
inductive Instr where
  /-- WR_BEGIN (R130): the 512-byte block `d` is written to block number `lba`. -/
  | wrBegin (lba : BitVec 32) (d : List Byte)
  /-- WR_HDR.LIVE (R132): chunk 0, magic and skip flag clear. -/
  | wrHdrLive (c : List Byte)
  /-- WR_HDR.SKIP (R132): chunk 0, magic and skip flag set. -/
  | wrHdrSkip (c : List Byte)
  /-- WR_HDR.NOMAGIC (R132): any other chunk 0. -/
  | wrHdrNomagic (c : List Byte)
  /-- WR_META (R133): chunk 1. -/
  | wrMeta (c : List Byte)
  /-- WR_PAYLOAD.SKIP (R137): a payload chunk that is discarded. -/
  | wrPayloadSkip (c : List Byte)
  /-- WR_PAYLOAD.OPEN (R141): the chunk that begins a page. -/
  | wrPayloadOpen (c : List Byte)
  /-- WR_PAYLOAD.MID (R142): a chunk inside a page. -/
  | wrPayloadMid (c : List Byte)
  /-- WR_PAYLOAD.LAST (R143): the chunk that completes a page. -/
  | wrPayloadLast (c : List Byte)
  /-- WR_END (R139): the end of a block. -/
  | wrEnd
  /-- HS_DONE_LA (R193): the load-address handshake is answered. -/
  | hsDoneLa
  /-- HS_DONE_PG (R195): the page-commit handshake is answered. -/
  | hsDonePg
  /-- RD_BOOT (R162): a read of block 0. -/
  | rdBoot
  /-- RD_FAT (R163): a read in the FAT region. -/
  | rdFat (lba : BitVec 32)
  /-- RD_ROOT (R164): a read in the root directory. -/
  | rdRoot (lba : BitVec 32)
  /-- RD_DATA (R165): a read of a file's sector. -/
  | rdData (lba : BitVec 32)
  /-- RD_ZERO (R166): a read beyond the last file. -/
  | rdZero (lba : BitVec 32)
  /-- HID_TUNNEL (R231): the count `k` and the 63 bytes after the framing byte. -/
  | hidTunnel (k : BitVec 7) (body : List Byte)
  /-- HID_BININFO (R236). -/
  | hidBininfo (tag : BitVec 16)
  /-- HID_INFO (R237). -/
  | hidInfo (tag : BitVec 16)
  /-- HID_UNKNOWN (R238): any other command id. -/
  | hidUnknown (cmd : BitVec 32) (tag : BitVec 16)
  /-- FLUSH_TICK (R239). -/
  | flushTick
  /-- RELAY (R240). -/
  | relay
  /-- DRAIN (R207). -/
  | drain
  /-- RX_ACK (R205): the acknowledgment byte is received. -/
  | rxAck
  /-- RX_OTHER (R206): another byte is received. -/
  | rxOther (b : Byte)
  /-- WDT_EXPIRE (R263, R264). -/
  | wdtExpire
  /-- POR (R290). -/
  | por
  /-- LOAD_ADDRESS (R99, R192), emitted: the command with word address `a`. -/
  | loadAddress (a : BitVec 16)
  /-- SYNC (R101, R200), emitted: the synchronization byte of a handshake. -/
  | sync
  /-- PROG_PAGE (R100, R193), emitted: the header with the page size and the terminator. -/
  | progPage (size : BitVec 16) (term : Byte)
  /-- DATA (R102, R194), emitted: the bytes of one payload chunk. -/
  | data (c : List Byte)
  /-- RESET(START) (R191), emitted. -/
  | resetStart
  /-- RESET(FINISH) (R196), emitted. -/
  | resetFinish
  /-- REPLY (R108, R234), emitted: a reply packet with the reply bytes `body`. -/
  | reply (body : List Byte)
  /-- RELAY_PACKET (R109, R240), emitted: a data-relay packet with the bytes `body`. -/
  | relayPacket (body : List Byte)
  /-- REBOOT (R262), emitted: the reset with its marker. -/
  | reboot (cause : Cause)
deriving DecidableEq, Repr

end Sys2Proof
end

