-- ==== Sys2Proof/WellFormed.lean ====
section
/-! DEFINITION. Which instructions the formats of `30_encoding.md` R90 to R118 and the selectors of R92 admit. -/

namespace Sys2Proof

/-- In the configuration `cfg` the operands of `i` are ones that its row of R92 selects, with the lengths of R90. -/
def Instr.wfFor (cfg : Config) (i : Instr) : Bool :=
  match i with
  | .wrBegin _ d => d.length == cfg.blk
  | .wrHdrLive c => c.length == cfg.chunk && c.take cfg.magicLen == cfg.magic
    && !(byteAt c 8).getLsbD 0
  | .wrHdrSkip c => c.length == cfg.chunk && c.take cfg.magicLen == cfg.magic
    && (byteAt c 8).getLsbD 0
  | .wrHdrNomagic c => c.length == cfg.chunk && c.take cfg.magicLen != cfg.magic
  | .wrMeta c => c.length == cfg.chunk
  | .wrPayloadSkip c => c.length == cfg.chunk
  | .wrPayloadOpen c => c.length == cfg.chunk
  | .wrPayloadMid c => c.length == cfg.chunk
  | .wrPayloadLast c => c.length == cfg.chunk
  | .wrEnd => true
  | .hsDoneLa => true
  | .hsDonePg => true
  | .rdBoot => true
  | .rdFat lba => decide (cfg.startFat0 ≤ lba.toNat) && decide (lba.toNat < cfg.startRootdir)
  | .rdRoot lba => decide (cfg.startRootdir ≤ lba.toNat) && decide (lba.toNat < cfg.startClusters)
  | .rdData lba =>
    decide (cfg.startClusters ≤ lba.toNat) && decide (lba.toNat < cfg.startClusters + cfg.numInfo)
  | .rdZero lba => decide (cfg.startClusters + cfg.numInfo ≤ lba.toNat)
  | .hidTunnel _ body => body.length == cfg.pkt - 1
  | .hidBininfo _ => true
  | .hidInfo _ => true
  | .hidUnknown cmd _ => cmd != cfg.cmdBininfo && cmd != cfg.cmdInfo
  | .flushTick => true
  | .relay => true
  | .drain => true
  | .rxAck => true
  | .rxOther b => b != cfg.ackByte
  | .wdtExpire => true
  | .por => true
  | .loadAddress _ => true
  | .sync => true
  | .progPage _ _ => true
  | .data c => c.length == cfg.chunk
  | .resetStart => true
  | .resetFinish => true
  | .reply body => decide (body.length ≤ cfg.pkt - 1)
  | .relayPacket body => decide (1 ≤ body.length) && decide (body.length ≤ cfg.pkt - 1)
  | .reboot _ => true

/-- The operands of `i` are ones that this hardware admits. -/
def Instr.wf (i : Instr) : Bool := i.wfFor Config.device

end Sys2Proof
end

