-- ==== Sys2Proof/Decode.lean ====
section
/-! DEFINITION. Byte order (`00_scope.md` R9), the formats' ports, the decoder of every unit (`30_encoding.md`
R92 to R117) and, after it, the encoder. The decoder is total and rejects by name. -/

namespace Sys2Proof

/-! ### Byte order -/

/-- `le16(a, i)` (R9). -/
def le16 (a : List Byte) (i : Nat) : BitVec 16 := byteAt a (i + 1) ++ byteAt a i

/-- `le32(a, i)` (R9). -/
def le32 (a : List Byte) (i : Nat) : BitVec 32 :=
  byteAt a (i + 3) ++ byteAt a (i + 2) ++ byteAt a (i + 1) ++ byteAt a i

/-- `LE16(v)` (R9): least significant byte first. -/
def bytesLE16 (v : BitVec 16) : List Byte := [v.extractLsb' 0 8, v.extractLsb' 8 8]

/-- `LE32(v)` (R9). -/
def bytesLE32 (v : BitVec 32) : List Byte :=
  [v.extractLsb' 0 8, v.extractLsb' 8 8, v.extractLsb' 16 8, v.extractLsb' 24 8]

/-- `BE16(v)` (R9): most significant byte first. -/
def bytesBE16 (v : BitVec 16) : List Byte := [v.extractLsb' 8 8, v.extractLsb' 0 8]

/-! ### Fields of the units -/

/-- `magicOk`: `c[0..7] = MAGIC` (R96). -/
def magicOk (cfg : Config) (c : List Byte) : Bool := decide (c.take cfg.magicLen = cfg.magic)

/-- `skip = c[8][0]` (R96). -/
def skipFlag (c : List Byte) : Bool := (byteAt c 8).getLsbD 0

/-- The count of a framing byte: its bits `HID_CNT_MASK` (R104, R105). -/
def framingCount (cfg : Config) (b : Byte) : BitVec 7 := (b &&& cfg.hidCntMask).setWidth 7

/-- The flag of a framing byte: its bit `HID_FLAG` (R104). -/
def framingFlag (cfg : Config) (b : Byte) : Bool := decide (b &&& cfg.hidFlag ≠ 0)

/-- The framing byte `0x80 | k` (R105, R108, R109). -/
def framingByte (cfg : Config) (k : BitVec 7) : Byte := cfg.hidFlag ||| k.setWidth 8

/-! ### Ports: which format a unit is read in -/

/-- The four forms of a payload chunk (R92). -/
inductive PayloadForm where
  /-- WR_PAYLOAD.SKIP (R137). -/
  | skip
  /-- WR_PAYLOAD.OPEN (R141). -/
  | first
  /-- WR_PAYLOAD.MID (R142). -/
  | mid
  /-- WR_PAYLOAD.LAST (R143). -/
  | last
deriving DecidableEq, Repr

/-- The formats of emitted units (R90, R92). -/
inductive UnitPort where
  /-- F-LA, F-PP and F-SYNC: the serial commands, told apart by their first byte and length. -/
  | command
  /-- F-DATA. -/
  | data
  /-- The target reset line: one selector byte of the model's own, 0 START, 1 FINISH (log 4). -/
  | resetLine
  /-- F-HIDR. -/
  | reply
  /-- F-HIDD. -/
  | relayPacket
  /-- REBOOT: one selector byte of the model's own, 0 HS_TIMEOUT, 1 DONE, 2 POR (log 4). -/
  | system
deriving DecidableEq, Repr

/-- Where a unit is presented: the interface or the sequencer position that selects its group of rows in R92. -/
inductive Port where
  /-- `WR(lba, D)` offered: `LE32(lba) ++ D` (log 4). -/
  | blockWrite
  /-- Chunk 0 of a block. -/
  | header
  /-- Chunk 1 of a block. -/
  | metadata
  /-- A payload chunk, in the form the state selects. -/
  | payload (f : PayloadForm)
  /-- End of block. -/
  | blockEnd
  /-- The acknowledged wait WAIT_LA. -/
  | ackedLa
  /-- The acknowledged wait WAIT_PG. -/
  | ackedPg
  /-- `RD(lba)`: `LE32(lba)` (log 4). -/
  | blockRead
  /-- `HID_OUT(p)`. -/
  | hidOut
  /-- FLUSH_TICK. -/
  | flushTick
  /-- RELAY. -/
  | relay
  /-- DRAIN. -/
  | drain
  /-- `RX(b)`. -/
  | rx
  /-- WDT_EXPIRE. -/
  | wdt
  /-- POR. -/
  | por
  /-- An emitted unit. -/
  | emitted (u : UnitPort)
deriving DecidableEq, Repr

/-- A unit presented to the device: its port and its bytes in wire order. -/
structure Presented where
  port : Port
  bytes : List Byte
deriving DecidableEq, Repr

/-- Why bytes are no unit of their port's format. -/
inductive DecodeError where
  /-- The unit has not the length of its format (R90). -/
  | wrongLength
  /-- No row of the format matches the bytes. -/
  | noSuchUnit
deriving DecidableEq, Repr

/-- What the decoder answers: an instruction, or why there is none. -/
abbrev Decoded := Except DecodeError Instr

/-! ### The decoder -/

/-- The instruction, where the unit has its format's length. -/
def ofLength (n : Nat) (bs : List Byte) (i : Instr) : Decoded :=
  if bs.length = n then .ok i else .error .wrongLength

/-- Chunk 0: the three classes of R93. -/
def decodeHeader (cfg : Config) (c : List Byte) : Instr :=
  if magicOk cfg c then
    if skipFlag c then .wrHdrSkip c else .wrHdrLive c
  else .wrHdrNomagic c

/-- A payload chunk in the form the state selects (R92). -/
def decodePayload (f : PayloadForm) (c : List Byte) : Instr :=
  match f with
  | .skip => .wrPayloadSkip c
  | .first => .wrPayloadOpen c
  | .mid => .wrPayloadMid c
  | .last => .wrPayloadLast c

/-- The region of a read: the first matching line of R161. -/
def decodeRead (cfg : Config) (lba : BitVec 32) : Instr :=
  if lba.toNat = 0 then .rdBoot
  else if lba.toNat < cfg.startRootdir then .rdFat lba
  else if lba.toNat < cfg.startClusters then .rdRoot lba
  else if lba.toNat - cfg.startClusters < cfg.numInfo then .rdData lba
  else .rdZero lba

/-- The inbound dispatch of a HID packet (R230), with its fields (R105 to R107, R232). -/
def decodeHid (cfg : Config) (p : List Byte) : Instr :=
  let cmd := le32 p 1
  let tag := le16 p 5
  if framingFlag cfg (byteAt p 0) then .hidTunnel (framingCount cfg (byteAt p 0)) (p.drop 1)
  else if cmd = cfg.cmdBininfo then .hidBininfo tag
  else if cmd = cfg.cmdInfo then .hidInfo tag
  else .hidUnknown cmd tag

/-- A received byte (R103). -/
def decodeRx (cfg : Config) (b : Byte) : Instr :=
  if b = cfg.ackByte then .rxAck else .rxOther b

/-- The serial commands the device emits (R99 to R101). -/
def decodeCommand (cfg : Config) (bs : List Byte) : Decoded :=
  match bs with
  | [b] => if b = cfg.syncEop then .ok .sync else .error .noSuchUnit
  | [b, lo, hi] =>
    if b = cfg.cmdLoadAddress then .ok (.loadAddress (hi ++ lo)) else .error .noSuchUnit
  | [b, hi, lo, t] =>
    if b = cfg.cmdProgPage then .ok (.progPage (hi ++ lo) t) else .error .noSuchUnit
  | _ => .error .wrongLength

/-- The used bytes of an outbound packet: its count is at most `PKT - 1`, its flag is set and its padding is zero
(R108, R109). -/
def packetBody (cfg : Config) (q : List Byte) : Except DecodeError (List Byte) :=
  let n := (framingCount cfg (byteAt q 0)).toNat
  if q.length ≠ cfg.pkt then .error .wrongLength
  else if framingFlag cfg (byteAt q 0) ∧ n ≤ cfg.pkt - 1
      ∧ q.drop (n + 1) = zeros (cfg.pkt - 1 - n) then
    .ok ((q.drop 1).take n)
  else .error .noSuchUnit

/-- The emitted units (R92). -/
def decodeUnit (cfg : Config) (u : UnitPort) (bs : List Byte) : Decoded :=
  match u with
  | .command => decodeCommand cfg bs
  | .data => ofLength cfg.chunk bs (.data bs)
  | .resetLine =>
    match bs with
    | [b] => if b = 0x00 then .ok .resetStart else if b = 0x01 then .ok .resetFinish else .error .noSuchUnit
    | _ => .error .wrongLength
  | .reply =>
    match packetBody cfg bs with
    | .ok body => .ok (.reply body)
    | .error e => .error e
  | .relayPacket =>
    match packetBody cfg bs with
    | .ok body => if body = [] then .error .noSuchUnit else .ok (.relayPacket body)
    | .error e => .error e
  | .system =>
    match bs with
    | [b] =>
      if b = 0x00 then .ok (.reboot .hsTimeout)
      else if b = 0x01 then .ok (.reboot .done)
      else if b = 0x02 then .ok (.reboot .por)
      else .error .noSuchUnit
    | _ => .error .wrongLength

/-- The instruction that the bytes of a unit stand for in the configuration `cfg`, or why there is none. -/
def decodeFor (cfg : Config) (p : Port) (bs : List Byte) : Decoded :=
  match p with
  | .blockWrite => ofLength (4 + cfg.blk) bs (.wrBegin (le32 bs 0) (bs.drop 4))
  | .header => ofLength cfg.chunk bs (decodeHeader cfg bs)
  | .metadata => ofLength cfg.chunk bs (.wrMeta bs)
  | .payload f => ofLength cfg.chunk bs (decodePayload f bs)
  | .blockEnd => ofLength 0 bs .wrEnd
  | .ackedLa => ofLength 0 bs .hsDoneLa
  | .ackedPg => ofLength 0 bs .hsDonePg
  | .blockRead => ofLength 4 bs (decodeRead cfg (le32 bs 0))
  | .hidOut => ofLength cfg.pkt bs (decodeHid cfg bs)
  | .flushTick => ofLength 0 bs .flushTick
  | .relay => ofLength 0 bs .relay
  | .drain => ofLength 0 bs .drain
  | .rx => ofLength 1 bs (decodeRx cfg (byteAt bs 0))
  | .wdt => ofLength 0 bs .wdtExpire
  | .por => ofLength 0 bs .por
  | .emitted u => decodeUnit cfg u bs

/-- The decoder of this hardware. -/
def decode (p : Port) (bs : List Byte) : Decoded := decodeFor Config.device p bs

/-! ### The encoder -/

/-- A packet with framing byte `0x80 | n` over `n` bytes, zero padded (R108, R109). -/
def framedPacket (cfg : Config) (body : List Byte) : List Byte :=
  framingByte cfg (BitVec.ofNat 7 body.length) :: body ++ zeros (cfg.pkt - 1 - body.length)

/-- A command packet: framing byte 0, id, tag, zeros (R106). -/
def commandPacket (cfg : Config) (cmd : BitVec 32) (tag : BitVec 16) : List Byte :=
  0x00 :: bytesLE32 cmd ++ bytesLE16 tag ++ zeros (cfg.pkt - 7)

/-- `F-LA` (R99). -/
def loadAddressBytes (cfg : Config) (a : BitVec 16) : List Byte := cfg.cmdLoadAddress :: bytesLE16 a

/-- `F-PP` (R100). -/
def progPageBytes (cfg : Config) (size : BitVec 16) (term : Byte) : List Byte :=
  cfg.cmdProgPage :: bytesBE16 size ++ [term]

/-- The unit that stands for an instruction in the configuration `cfg`: what the encoding tables of R92 to R112 give it; a
bit that no rule reads is 0. -/
def encodeFor (cfg : Config) (i : Instr) : Presented :=
  match i with
  | .wrBegin lba d => ⟨.blockWrite, bytesLE32 lba ++ d⟩
  | .wrHdrLive c => ⟨.header, c⟩
  | .wrHdrSkip c => ⟨.header, c⟩
  | .wrHdrNomagic c => ⟨.header, c⟩
  | .wrMeta c => ⟨.metadata, c⟩
  | .wrPayloadSkip c => ⟨.payload .skip, c⟩
  | .wrPayloadOpen c => ⟨.payload .first, c⟩
  | .wrPayloadMid c => ⟨.payload .mid, c⟩
  | .wrPayloadLast c => ⟨.payload .last, c⟩
  | .wrEnd => ⟨.blockEnd, []⟩
  | .hsDoneLa => ⟨.ackedLa, []⟩
  | .hsDonePg => ⟨.ackedPg, []⟩
  | .rdBoot => ⟨.blockRead, bytesLE32 0⟩
  | .rdFat lba => ⟨.blockRead, bytesLE32 lba⟩
  | .rdRoot lba => ⟨.blockRead, bytesLE32 lba⟩
  | .rdData lba => ⟨.blockRead, bytesLE32 lba⟩
  | .rdZero lba => ⟨.blockRead, bytesLE32 lba⟩
  | .hidTunnel k body => ⟨.hidOut, framingByte cfg k :: body⟩
  | .hidBininfo tag => ⟨.hidOut, commandPacket cfg cfg.cmdBininfo tag⟩
  | .hidInfo tag => ⟨.hidOut, commandPacket cfg cfg.cmdInfo tag⟩
  | .hidUnknown cmd tag => ⟨.hidOut, commandPacket cfg cmd tag⟩
  | .flushTick => ⟨.flushTick, []⟩
  | .relay => ⟨.relay, []⟩
  | .drain => ⟨.drain, []⟩
  | .rxAck => ⟨.rx, [cfg.ackByte]⟩
  | .rxOther b => ⟨.rx, [b]⟩
  | .wdtExpire => ⟨.wdt, []⟩
  | .por => ⟨.por, []⟩
  | .loadAddress a => ⟨.emitted .command, loadAddressBytes cfg a⟩
  | .sync => ⟨.emitted .command, [cfg.syncEop]⟩
  | .progPage size term => ⟨.emitted .command, progPageBytes cfg size term⟩
  | .data c => ⟨.emitted .data, c⟩
  | .resetStart => ⟨.emitted .resetLine, [0x00]⟩
  | .resetFinish => ⟨.emitted .resetLine, [0x01]⟩
  | .reply body => ⟨.emitted .reply, framedPacket cfg body⟩
  | .relayPacket body => ⟨.emitted .relayPacket, framedPacket cfg body⟩
  | .reboot .hsTimeout => ⟨.emitted .system, [0x00]⟩
  | .reboot .done => ⟨.emitted .system, [0x01]⟩
  | .reboot .por => ⟨.emitted .system, [0x02]⟩

/-- The encoder of this hardware. -/
def encode (i : Instr) : Presented := encodeFor Config.device i

/-! ### The opcode table's words -/

/-- The `n` low bytes of `w`, the least significant first. -/
def bytesOfNat : Nat → Nat → List Byte
  | 0, _ => []
  | n + 1, w => BitVec.ofNat 8 w :: bytesOfNat n (w / 256)

/-- `bs` with zero bytes up to length `n`. -/
def padTo (n : Nat) (bs : List Byte) : List Byte := bs ++ zeros (n - bs.length)

/-- The unit that a word of the table names (log 6). A word has no port, so its width and its first byte select one.
The serial commands of 24 and 32 bits are numbered by the table with the first byte uppermost; every other width has
its first byte in bits 7 to 0. Eight bits: a framing byte with the flag set is a tunnel packet, 0x20 is the emitted
SYNC, any other byte is a received byte. 40 or 56 bits: a HID packet. 72 or 128 bits: a header chunk. -/
def tableUnit (nbits w : Nat) : Option Presented :=
  let bs := bytesOfNat (nbits / 8) w
  if nbits = 8 then
    if framingFlag Config.device (byteAt bs 0) then some ⟨.hidOut, padTo Config.device.pkt bs⟩
    else if byteAt bs 0 = Config.device.syncEop then some ⟨.emitted .command, bs⟩
    else some ⟨.rx, bs⟩
  else if nbits = 24 ∨ nbits = 32 then some ⟨.emitted .command, bs.reverse⟩
  else if nbits = 40 ∨ nbits = 56 ∨ nbits = 512 then some ⟨.hidOut, padTo Config.device.pkt bs⟩
  else if nbits = 72 ∨ nbits = 128 then some ⟨.header, padTo Config.device.chunk bs⟩
  else none

/-- The instruction the decoder reads from a word of the opcode table. -/
def decodeTableWord (nbits w : Nat) : Option Instr :=
  match tableUnit nbits w with
  | some u =>
    match decode u.port u.bytes with
    | .ok i => some i
    | .error _ => none
  | none => none

end Sys2Proof
end

