-- ==== Sys2Proof/Machine/State.lean ====
section
/-! DEFINITION. The state of the device (`10_state.md` R20 to R56) as plain data, the observation (R46), the
environment's events, and the reset state (R55). -/

namespace Sys2Proof.Machine

/-- The sequencer's control state (R22, R23). -/
inductive Upc where
  /-- `IDLE`: between tasks, no block in flight. -/
  | idle
  /-- `BLK`: a block is in flight, ready for chunk `ci` or the end of the block. -/
  | blk
  /-- `WAIT_LA`: waiting for the load-address acknowledgment. -/
  | waitLa
  /-- `WAIT_PG`: waiting for the page-commit acknowledgment. -/
  | waitPg
deriving DecidableEq, Repr

/-- The watchdog's arming (R30). -/
inductive Wdt where
  /-- It cannot expire. -/
  | off
  /-- Armed by a handshake. -/
  | hs
  /-- Armed by completion; never disarmed. -/
  | done
deriving DecidableEq, Repr

/-- The level of the target reset line (R55, R273). -/
inductive ResetLine where
  /-- Inactive: the idle level. -/
  | released
  /-- Driven low, inside a RESET event only. -/
  | asserted
deriving DecidableEq, Repr

/-- An event toward the target on `serOut` (R48). -/
inductive SerEvent where
  /-- `TX(b)`. -/
  | tx (b : Byte)
  /-- `RESET(START)`. -/
  | resetStart
  /-- `RESET(FINISH)`. -/
  | resetFinish
deriving DecidableEq, Repr

/-- One turn of the execution, as the environment orders them (R46 to R51, R80, R121; log 1). -/
inductive Event where
  /-- `WR(lba, D)` (R47). -/
  | wr (lba : BitVec 32) (d : List Byte)
  /-- `RD(lba)` (R47). -/
  | rd (lba : BitVec 32)
  /-- `HID_OUT(p)` (R50). -/
  | hid (p : List Byte)
  /-- `RX(b)` (R49). -/
  | rx (b : Byte)
  /-- FLUSH_TICK may fire (R239). -/
  | tick
  /-- RELAY may fire: the HID transport is ready (R50, R240). -/
  | relay
  /-- DRAIN may fire: the transmitter is ready (R207). -/
  | drain
  /-- WDT_EXPIRE may fire (R51). -/
  | wdt
  /-- `POR` (R51). -/
  | por
  /-- The main sequencer takes its own next operation (R80). -/
  | seq
  /-- The model's own: one emitted unit as a turn of its own, which no interface of the spec offers (log 5). -/
  | unit (u : UnitPort) (bs : List Byte)
deriving DecidableEq, Repr

/-- The state: the device's registers and buffers, the observation, and the environment's events. The widths are those
that `10_state.md` states; `Config.fits` says which configurations they hold (log 11). -/
structure State where
  /-- Sequencer control state (R22). -/
  upc : Upc
  /-- Index of the next chunk, 0 to `NCHUNK` (R22). -/
  ci : BitVec 6
  /-- The block in flight, an interface latch (R21). -/
  blkData : Option (List Byte)
  /-- The chunk being processed, `CHUNK` bytes (R21). -/
  chunkBuf : List Byte
  /-- The word address of the page being or next to be programmed (R21). -/
  wordAddr : BitVec 16
  /-- Whole pages of this block still to be programmed, `META_W - PAGE_SHIFT` bits (R21). -/
  pagesPending : BitVec 25
  /-- The block in flight is inert (R24). -/
  inert : Bool
  /-- The target has been reset since the device's reset (R24). -/
  started : Bool
  /-- Queued target bytes should go to the host (R24). -/
  flushPending : Bool
  /-- The expected block count or a sentinel, `META_W` bits (R25). -/
  expCount : BitVec 32
  /-- The indices recorded since reset, `BITMAP_CAP` bits (R26). -/
  bitmap : BitVec 256
  /-- The number of indices recorded since it was last zeroed (R27). -/
  writtenCount : BitVec 9
  /-- The acknowledgment counter, `ACK_W` bits (R29). -/
  ackCount : BitVec 8
  /-- The watchdog (R30). -/
  wdt : Wdt
  /-- The host-to-target ring, head first (R37). -/
  h2t : List Byte
  /-- The target-to-host ring, head first (R39). -/
  t2h : List Byte
  /-- The outbound packet buffer, `PKT` bytes (R40). -/
  txBuf : List Byte
  /-- The target reset line (R55). -/
  resetLine : ResetLine
  /-- The trace toward the target, oldest first (R48). -/
  serOut : List SerEvent
  /-- The packets sent to the host, oldest first (R50). -/
  hidOut : List (List Byte)
  /-- The reboots, oldest first (R51). -/
  sysOut : List Cause
  /-- The model's own: the bytes the last RD returned (R161; log 9). -/
  mscReply : Option (List Byte)
  /-- The model's own: the environment's events, next first (log 1). -/
  events : List Event
deriving DecidableEq, Repr

/-- Why the machine stops with a fault. -/
inductive Fault where
  /-- Raised by the fetch of a step when the sequencer position has no row in R247 (`ci` above 32, or a block in
  flight with no block latched). Safe: the spec names no operation there and no run from reset reaches one (log 13). -/
  | offTable
deriving DecidableEq, Repr

/-- Why the machine refuses a unit. -/
inductive Refusal where
  /-- Raised by an arm of `exec` that has no meaning yet; no arm is left so. Safe. -/
  | notModelled (mnemonic : String)
  /-- Raised by a step whose event carries bytes that are no unit of their format (a block that is not 512 bytes, a
  packet that is not 64 bytes). Safe: no interface delivers such a unit (R71; log 4). -/
  | badUnit (e : DecodeError)
deriving DecidableEq, Repr

/-- What a step or an operation answers. -/
abbrev Out := Host.Outcome State Fault Refusal

/-- The machine right after reset (R55, R291) in the configuration `cfg`; nothing has been observed and nothing is
offered. `chunkBuf`, which the spec leaves unspecified, is zero bytes (log 7). `UNSET` is stored whole (log 21). -/
def State.resetFor (cfg : Config) : State where
  upc := .idle
  ci := 0
  blkData := none
  chunkBuf := zeros cfg.chunk
  wordAddr := 0x0000
  pagesPending := 0
  inert := false
  started := false
  flushPending := false
  expCount := cfg.unset
  bitmap := 0
  writtenCount := 0
  ackCount := 0
  wdt := .off
  h2t := []
  t2h := []
  txBuf := zeros cfg.pkt
  resetLine := .released
  serOut := []
  hidOut := []
  sysOut := []
  mscReply := none
  events := []

/-- This hardware right after reset. -/
def State.reset : State := State.resetFor Config.device

end Sys2Proof.Machine
end

