-- ==== Sys2Proof/Machine/Operands.lean ====
section
/-! DEFINITION. How each operand is assembled (`30_encoding.md` R96 to R98, R118) and where the sequencer stands
(`40_uf2_decoder.md` R131, R138; `30_encoding.md` R92). -/

namespace Sys2Proof.Machine

/-- `v mod 2^w` in a register as wide as `v`: the value that a register of width `w` takes (R8). -/
def narrow {n : Nat} (w : Nat) (v : BitVec n) : BitVec n := (v.setWidth w).setWidth n

/-! ### The header and metadata chunks -/

/-- `byteAddr = le16(c, 12)`, `ADDR_W` bits (R96). -/
def byteAddr (cfg : Config) (c : List Byte) : BitVec 16 := narrow cfg.addrW (le16 c 12)

/-- `wordAddrNew = byteAddr >> 1` (R96, R62). -/
def wordAddrNew (cfg : Config) (c : List Byte) : BitVec 16 := byteAddr cfg c >>> 1

/-- `declSize = le32(c, OFF_SIZE)`, `META_W` bits (R97). -/
def declSize (cfg : Config) (c : List Byte) : BitVec 32 := narrow cfg.metaW (le32 c cfg.offSize)

/-- `index = le32(c, OFF_INDEX)`, `META_W` bits (R97). -/
def blockIndex (cfg : Config) (c : List Byte) : BitVec 32 := narrow cfg.metaW (le32 c cfg.offIndex)

/-- `declCount = le32(c, OFF_COUNT)`, `META_W` bits (R97). -/
def declCount (cfg : Config) (c : List Byte) : BitVec 32 := narrow cfg.metaW (le32 c cfg.offCount)

/-- `pages = declSize >> PAGE_SHIFT`, 25 bits (R97, R134). -/
def pages (cfg : Config) (c : List Byte) : BitVec 25 := (declSize cfg c >>> cfg.pageShift).setWidth 25

/-! ### Chunks and their positions -/

/-- Chunk `i` of a block: bytes `i * CHUNK` to `i * CHUNK + CHUNK - 1` (R131). -/
def chunkOf (cfg : Config) (d : List Byte) (i : Nat) : List Byte := (d.drop (i * cfg.chunk)).take cfg.chunk

/-- `pos = (ci - FPC) mod CPP` (R138). -/
def pagePos (cfg : Config) (ci : BitVec 6) : Nat := (ci.toNat - cfg.fpc) % cfg.cpp

/-! ### Enabling conditions of the main sequencer (R92, R247) -/

/-- The main loop is between tasks. -/
def State.isIdle (s : State) : Bool := decide (s.upc = .idle)

/-- Ready for the header chunk (R132). -/
def State.atHeader (s : State) : Bool := decide (s.upc = .blk) && decide (s.ci.toNat = 0)

/-- Ready for the metadata chunk (R133). -/
def State.atMetadata (s : State) : Bool := decide (s.upc = .blk) && decide (s.ci.toNat = 1)

/-- Ready for a payload chunk: `FPC <= ci < NCHUNK` (R137, R141). -/
def State.atPayload (cfg : Config) (s : State) : Bool :=
  decide (s.upc = .blk) && decide (cfg.fpc ≤ s.ci.toNat) && decide (s.ci.toNat < cfg.nchunk)

/-- Ready for the end of the block (R139). -/
def State.atEnd (cfg : Config) (s : State) : Bool := decide (s.upc = .blk) && decide (s.ci.toNat = cfg.nchunk)

/-- A payload chunk acts: `inert = 0` and `pagesPending > 0` (R137). -/
def State.programs (s : State) : Bool := !s.inert && decide (s.pagesPending ≠ 0)

/-- The form of the payload chunk at `ci` (R92, R137, R141 to R143). A one-chunk page (`CPP = 1`) opens. -/
def State.payloadForm (cfg : Config) (s : State) : PayloadForm :=
  if !s.programs then .skip
  else if pagePos cfg s.ci = 0 then .first
  else if pagePos cfg s.ci = cfg.cpp - 1 then .last
  else .mid

/-- A payload chunk is due and the state selects form `f`. -/
def State.payloadDue (cfg : Config) (f : PayloadForm) (s : State) : Bool :=
  s.atPayload cfg && decide (s.payloadForm cfg = f)

/-- The wait `k` is acknowledged: `upc = k` and `ackCount != 0` (R193, R195, R201). -/
def State.acked (k : Upc) (s : State) : Bool := decide (s.upc = k) && decide (s.ackCount ≠ 0)

/-- RELAY's own conditions (R240). -/
def State.canRelay (s : State) : Bool := s.isIdle && s.flushPending && decide (s.t2h ≠ [])

/-- DRAIN's own conditions (R207). -/
def State.canDrain (s : State) : Bool := s.isIdle && decide (s.h2t ≠ [])

/-! ### HID operands -/

/-- The bytes a tunnel packet names: the first `k` after the framing byte, all of them where `k` exceeds what the packet
has (R231; U3 and log 8). -/
def tunnelBytes (k : BitVec 7) (body : List Byte) : List Byte := body.take k.toNat

/-- `n = min(PKT - 1, t2h.count)` (R118, R240). -/
def relayCount (cfg : Config) (t2h : List Byte) : Nat := min (cfg.pkt - 1) t2h.length

end Sys2Proof.Machine
end

