-- ==== Sys2Proof/Machine/Flags.lean ====
section
/-! DEFINITION. The flags, the transfer state and the watchdog's arming (`10_state.md` R24 to R30): each as the value an
operation gives it. There are no condition codes (R24, R246). -/

namespace Sys2Proof.Machine

/-- `expCount` after a live block declares `n` (R135): freeze a differing stored value, otherwise adopt. A code of `UNSET`
or `INDET` wider than `META_W` bits is stored and compared whole (DESIGN CHOICE, log 21). -/
def nextExpCount (cfg : Config) (stored n : BitVec 32) : BitVec 32 :=
  if n = stored then stored
  else if stored ≠ cfg.unset then cfg.indet
  else n

/-- `expCount` is concrete: neither sentinel (R25). -/
def isConcrete (cfg : Config) (e : BitVec 32) : Bool := decide (e ≠ cfg.unset) && decide (e ≠ cfg.indet)

/-- The index is within capacity and not yet recorded (R136). -/
def isFresh (cfg : Config) (bitmap : BitVec 256) (i : BitVec 32) : Bool :=
  decide (i.toNat < cfg.bitmapCap) && !bitmap.getLsbD i.toNat

/-- `bitmap` with bit `i` set (R136). -/
def setBit (bitmap : BitVec 256) (i : Nat) : BitVec 256 := bitmap ||| (1#256 <<< i)

/-- `bitmap` after a live block with index `i` (R136). -/
def recordIndex (cfg : Config) (bitmap : BitVec 256) (i : BitVec 32) : BitVec 256 :=
  if isFresh cfg bitmap i then setBit bitmap i.toNat else bitmap

/-- `writtenCount` after a live block with index `i` (R136). -/
def countIndex (cfg : Config) (bitmap : BitVec 256) (count : BitVec 9) (i : BitVec 32) : BitVec 9 :=
  if isFresh cfg bitmap i then count + 1 else count

/-- The completion test of WR_END (R139), unsigned. -/
def State.completes (cfg : Config) (s : State) : Bool :=
  !s.inert && isConcrete cfg s.expCount && decide (s.expCount.toNat ≤ s.writtenCount.toNat)

/-- `ackCount` after an acknowledgment byte: one more modulo `2^ACK_W` (R205). -/
def nextAckCount (cfg : Config) (n : BitVec 8) : BitVec 8 := narrow cfg.ackW (n + 1)

/-- `wdt` after a handshake starts: OFF becomes HS, anything else stays (R200). -/
def armHandshake : Wdt → Wdt
  | .off => .hs
  | .hs => .hs
  | .done => .done

/-- `wdt` after a wait ends: HS becomes OFF, anything else stays (R193, R195). -/
def endHandshake : Wdt → Wdt
  | .off => .off
  | .hs => .off
  | .done => .done

end Sys2Proof.Machine
end

