-- ==== Sys2Proof/Machine/Ops.lean ====
section
/-! DEFINITION. The named operations over the state that the meanings share (`00_scope.md` R10): the traces, the rings,
the handshake, packet assembly, and the one fatal outcome. -/

namespace Sys2Proof.Machine

/-- An operation is taken only where it is enabled (R11); offered elsewhere it does not occur and nothing changes (R263
(b); log 2). -/
def whenEnabled (enabled : Bool) (s t : State) : Out := .next (if enabled then t else s)

/-! ### The traces -/

/-- `Out(e)` (R10). -/
def State.out (e : SerEvent) (s : State) : State := { s with serOut := s.serOut ++ [e] }

/-- `TxAll(a)`: every byte in index order (R10, R208). -/
def State.txAll (a : List Byte) (s : State) : State := { s with serOut := s.serOut ++ a.map SerEvent.tx }

/-- `Tx(b)` (R10). -/
def State.tx (b : Byte) (s : State) : State := s.txAll [b]

/-- `HidSend(p)` out of `txBuf` (R10, R40, R234). -/
def State.hidSend (p : List Byte) (s : State) : State := { s with txBuf := p, hidOut := s.hidOut ++ [p] }

/-! ### The rings -/

/-- `Push(r, b)`: a full ring drops the new byte (R38). -/
def push (cap : Nat) (r : List Byte) (b : Byte) : List Byte := if r.length < cap then r ++ [b] else r

/-- `Push` of every byte in order (R231). -/
def pushAll (cap : Nat) (r bs : List Byte) : List Byte := bs.foldl (push cap) r

/-! ### The handshake -/

/-- What a handshake does on the wire: clear the counter, bound the wait, send the synchronization byte (R200). -/
def State.sendSync (cfg : Config) (s : State) : State :=
  { s with ackCount := 0, wdt := armHandshake s.wdt }.tx cfg.syncEop

/-- `Handshake(k)` (R200). -/
def State.handshake (cfg : Config) (k : Upc) (s : State) : State := { s.sendSync cfg with upc := k }

/-- The end of a wait that its own handshake bounded (R193, R195). -/
def State.endWait (s : State) : State := { s with wdt := endHandshake s.wdt }

/-! ### The target reset line -/

/-- `RESET(START)` and `started <- 1` (R191); the line is released again at its end. -/
def State.resetTarget (s : State) : State := { s.out .resetStart with started := true, resetLine := .released }

/-- `RESET(FINISH)` (R196); the line is released again at its end. -/
def State.restartTarget (s : State) : State := { s.out .resetFinish with resetLine := .released }

/-! ### The block in flight -/

/-- The chunk of R131 is in `chunkBuf`. -/
def State.fetchChunk (c : List Byte) (s : State) : State := { s with chunkBuf := c }

/-- `ci <- ci + 1`. -/
def State.nextChunk (s : State) : State := { s with ci := s.ci + 1 }

/-! ### Outbound packets -/

/-- `Append(b)` on the packet buffer (R233): count up, then store at the count. -/
def appendReply (buf : List Byte) (b : Byte) : List Byte :=
  let n := byteAt buf 0 + 1
  (buf.set 0 n).set n.toNat b

/-- Assembly of a reply in a zeroed buffer (R233). -/
def assembleReply (cfg : Config) (body : List Byte) : List Byte := body.foldl appendReply (zeros cfg.pkt)

/-- Flush: the high bit of the count byte is set (R234). -/
def flushReply (cfg : Config) (buf : List Byte) : List Byte := buf.set 0 (byteAt buf 0 ||| cfg.hidFlag)

/-- Assemble and send a reply (R233, R234). -/
def State.sendReply (cfg : Config) (body : List Byte) (s : State) : State :=
  s.hidSend (flushReply cfg (assembleReply cfg body))

/-- The response header: tag, status, one zero byte (R108). -/
def replyHeader (tag : BitVec 16) (status : Byte) : List Byte := bytesLE16 tag ++ [status, 0x00]

/-- The data of the bootloader-info reply (R110). -/
def bininfoData (cfg : Config) : List Byte :=
  bytesLE32 cfg.modeBootloader ++ bytesLE32 (BitVec.ofNat 32 cfg.page)
    ++ bytesLE32 (BitVec.ofNat 32 cfg.flashPages) ++ bytesLE32 (BitVec.ofNat 32 cfg.maxMsg)

/-- Send a data-relay packet with the bytes `body` (R109, R240). -/
def State.sendRelay (cfg : Config) (body : List Byte) (s : State) : State := s.hidSend (framedPacket cfg body)

/-! ### The receive interrupt -/

/-- The received byte is queued for the host (R205, R206). -/
def State.receive (cfg : Config) (b : Byte) (s : State) : State := { s with t2h := push cfg.t2hCap s.t2h b }

/-! ### The one fatal outcome -/

/-- `Reboot(cause)` (R262): the cause is noted and every piece of state takes its reset value. The traces are not
cleared (R46); what the host was last answered and what the environment has still to offer are not the device's
(log 10). Nothing returns from it (R270). -/
def State.rebootFor (cfg : Config) (cause : Cause) (s : State) : State :=
  { State.resetFor cfg with
    serOut := s.serOut
    hidOut := s.hidOut
    sysOut := s.sysOut ++ [cause]
    mscReply := s.mscReply
    events := s.events }

/-- `Reboot(cause)` of this hardware. -/
def State.reboot (cause : Cause) (s : State) : State := s.rebootFor Config.device cause

/-- `complete()` (R140), in the source's order. -/
def State.complete (s : State) : State := { { s with writtenCount := 0 }.restartTarget with wdt := .done }

end Sys2Proof.Machine
end

