-- ==== Sys2Proof/Machine/Disk.lean ====
section
/-! DEFINITION. The FAT16 sector synthesizer (`41_fat16_synth.md` R160 to R168; byte layouts `30_encoding.md` R114 to
R117): a pure function from a block number to 512 bytes, of the configuration alone. -/

namespace Sys2Proof.Machine

variable (cfg : Config)

/-- A sector of 512 bytes: its leading bytes, zero padded (R163 to R165; 512 is no parameter there). -/
def sector (bs : List Byte) : List Byte := bs ++ zeros (512 - bs.length)

/-- "UF2 UF2 ", the OEM name (R114). -/
def oemName : List Byte := [0x55, 0x46, 0x32, 0x20, 0x55, 0x46, 0x32, 0x20]

/-- "FAT16   ", the filesystem type (R114). -/
def fsType : List Byte := [0x46, 0x41, 0x54, 0x31, 0x36, 0x20, 0x20, 0x20]

/-- The media descriptor 0xF8 (R114, R115). -/
def mediaDescriptor : Byte := 0xF8

/-- Boot sector bytes 0 to 35: jump to total sectors, in the order of R114. The sector size is 512 and no parameter
(R162); a value wider than its field is written by its low bits (R9; log 19). -/
def bootHead : List Byte :=
  [0xEB, 0x3C, 0x90] ++ oemName
    ++ bytesLE16 512 ++ [BitVec.ofNat 8 cfg.secPerClus]
    ++ bytesLE16 (BitVec.ofNat 16 cfg.reservedSectors) ++ [BitVec.ofNat 8 cfg.fatCopies]
    ++ bytesLE16 (BitVec.ofNat 16 (cfg.rootDirSectors * 16)) ++ bytesLE16 (BitVec.ofNat 16 cfg.numBlocks)
    ++ [mediaDescriptor] ++ bytesLE16 (BitVec.ofNat 16 cfg.sectorsPerFat)
    ++ bytesLE16 1 ++ bytesLE16 1 ++ bytesLE32 0 ++ bytesLE32 0

/-- Boot sector bytes 36 to 61: drive number to filesystem type, in the order of R114. -/
def bootTail : List Byte := [0x00, 0x00, 0x29] ++ bytesLE32 cfg.volSerial ++ cfg.volumeLabel.toList ++ fsType

/-- `Boot()` (R162). -/
def bootSector : List Byte := bootHead cfg ++ bootTail cfg ++ zeros 448 ++ [0x55, 0xAA]

/-- The FAT sector `s` of a copy (R115, R163). -/
def fatTable (s : Nat) : List Byte :=
  sector (if s = 0 then [mediaDescriptor, 0xFF] ++ List.replicate (2 * cfg.numInfo + 2) 0xFF#8 else [])

/-- `Fat(lba)` (R163): the second copy is the first. Below `START_FAT0`, where R163 defines nothing, a free value
(log 17). -/
def fatSector (lba : BitVec 32) : List Byte :=
  if lba.toNat < cfg.startFat0 then (cfg.reservedBlock lba).toList
  else
    let s := lba.toNat - cfg.startFat0
    fatTable cfg (if s ≥ cfg.sectorsPerFat then s - cfg.sectorsPerFat else s)

/-- A root directory entry (R116). -/
def dirEntry (name : Vector Byte 11) (attr : Byte) (cluster : BitVec 16) (size : BitVec 32) : List Byte :=
  name.toList ++ [attr] ++ zeros 14 ++ bytesLE16 cluster ++ bytesLE32 size

/-- `FILE[i].name` (R41, R117): row `i` of the file-name table; without one, a free value (log 18). -/
def fileName (i : Nat) : Vector Byte 11 := cfg.fileNames.getD i (cfg.otherFileName i)

/-- `FILE[i].content` (R117, R167, R168); after the two files of R167 a free value (log 18). -/
def fileContent (i : Nat) : List Byte :=
  if i = 0 then cfg.ident else if i = 1 then cfg.html else (cfg.otherFileContent i).take 512

/-- The directory entry of file `i` (R164): start cluster `2 + i`, the exact size. -/
def fileEntry (i : Nat) : List Byte :=
  dirEntry (fileName cfg i) 0x00 (BitVec.ofNat 16 (2 + i)) (BitVec.ofNat 32 (fileContent cfg i).length)

/-- The volume label's entry: no data (R116, R164). -/
def labelEntry : List Byte := dirEntry cfg.volumeLabel 0x28 0 0

/-- `Root(lba)` (R164). -/
def rootSector (lba : BitVec 32) : List Byte :=
  sector (if lba.toNat - cfg.startRootdir = 0 then
    labelEntry cfg ++ (List.range cfg.numInfo).flatMap (fileEntry cfg) else [])

/-- `Data(lba)` (R165). -/
def dataSector (lba : BitVec 32) : List Byte := sector (fileContent cfg (lba.toNat - cfg.startClusters))

/-- `zeros(512)` (R166). -/
def zeroSector : List Byte := zeros 512

/-- `ReadBlock(lba)` (R160, R161): the first matching line. -/
def readBlock (lba : BitVec 32) : List Byte :=
  if lba.toNat = 0 then bootSector cfg
  else if lba.toNat < cfg.startRootdir then fatSector cfg lba
  else if lba.toNat < cfg.startClusters then rootSector cfg lba
  else if lba.toNat - cfg.startClusters < cfg.numInfo then dataSector cfg lba
  else zeroSector

end Sys2Proof.Machine
end

