-- ==== Sys2Proof/Machine/BlockRead.lean ====
section
/-! DEFINITION. The MSC read path (`41_fat16_synth.md` R161 to R166): no state of the device changes; the 512 bytes are
answered to the host. -/

namespace Sys2Proof.Machine

/-- The device returns `bs` to the host (R161; log 9). -/
def State.answerRead (bs : List Byte) (s : State) : State := { s with mscReply := some bs }

/-- RD_BOOT (R162). -/
def rdBootFor (cfg : Config) (s : State) : Out := whenEnabled s.isIdle s (s.answerRead (bootSector cfg))

/-- RD_BOOT on this hardware. -/
def execRdBoot (s : State) : Out := rdBootFor Config.device s

/-- RD_FAT (R163). -/
def rdFatFor (cfg : Config) (lba : BitVec 32) (s : State) : Out :=
  whenEnabled s.isIdle s (s.answerRead (fatSector cfg lba))

/-- RD_FAT on this hardware. -/
def execRdFat (lba : BitVec 32) (s : State) : Out := rdFatFor Config.device lba s

/-- RD_ROOT (R164). -/
def rdRootFor (cfg : Config) (lba : BitVec 32) (s : State) : Out :=
  whenEnabled s.isIdle s (s.answerRead (rootSector cfg lba))

/-- RD_ROOT on this hardware. -/
def execRdRoot (lba : BitVec 32) (s : State) : Out := rdRootFor Config.device lba s

/-- RD_DATA (R165). -/
def rdDataFor (cfg : Config) (lba : BitVec 32) (s : State) : Out :=
  whenEnabled s.isIdle s (s.answerRead (dataSector cfg lba))

/-- RD_DATA on this hardware. -/
def execRdData (lba : BitVec 32) (s : State) : Out := rdDataFor Config.device lba s

/-- RD_ZERO (R166): 512 zeros in every configuration. -/
def execRdZero (_lba : BitVec 32) (s : State) : Out := whenEnabled s.isIdle s (s.answerRead zeroSector)

end Sys2Proof.Machine
end

