-- ==== Sys2Proof/Machine/BlockWrite.lean ====
section
/-! DEFINITION. The MSC write path (`40_uf2_decoder.md` R130 to R143). -/

namespace Sys2Proof.Machine

/-- WR_BEGIN (R130): latch the block; `lba` is not read (R61, R74). -/
def execWrBegin (_lba : BitVec 32) (d : List Byte) (s : State) : Out :=
  whenEnabled s.isIdle s { s with blkData := some d, ci := 0, upc := .blk }

/-- WR_HDR.LIVE (R132). -/
def wrHdrLiveFor (cfg : Config) (c : List Byte) (s : State) : Out :=
  whenEnabled s.atHeader s { s.fetchChunk c with inert := false, wordAddr := wordAddrNew cfg c, ci := 1 }

/-- WR_HDR.LIVE on this hardware. -/
def execWrHdrLive (c : List Byte) (s : State) : Out := wrHdrLiveFor Config.device c s

/-- WR_HDR of an inert block: `wordAddr` keeps its value (R132). -/
def State.inertHeader (c : List Byte) (s : State) : State := { s.fetchChunk c with inert := true, ci := 1 }

/-- WR_HDR.SKIP (R132). -/
def execWrHdrSkip (c : List Byte) (s : State) : Out := whenEnabled s.atHeader s (s.inertHeader c)

/-- WR_HDR.NOMAGIC (R132). -/
def execWrHdrNomagic (c : List Byte) (s : State) : Out := whenEnabled s.atHeader s (s.inertHeader c)

/-- Steps A, B and C of a live metadata chunk (R133 to R136). -/
def State.liveMetadata (cfg : Config) (c : List Byte) (s : State) : State :=
  { s with
    pagesPending := pages cfg c
    expCount := nextExpCount cfg s.expCount (declCount cfg c)
    bitmap := recordIndex cfg s.bitmap (blockIndex cfg c)
    writtenCount := countIndex cfg s.bitmap s.writtenCount (blockIndex cfg c) }

/-- On to the payload chunks (R133). -/
def State.toPayload (s : State) : State := { s with ci := 2 }

/-- WR_META (R133). -/
def wrMetaFor (cfg : Config) (c : List Byte) (s : State) : Out :=
  let t := s.fetchChunk c
  whenEnabled s.atMetadata s (if s.inert then t.toPayload else (t.liveMetadata cfg c).toPayload)

/-- WR_META on this hardware. -/
def execWrMeta (c : List Byte) (s : State) : Out := wrMetaFor Config.device c s

/-- WR_PAYLOAD.SKIP (R137): fetched and discarded. -/
def wrPayloadSkipFor (cfg : Config) (c : List Byte) (s : State) : Out :=
  whenEnabled (s.payloadDue cfg .skip) s (s.fetchChunk c).nextChunk

/-- WR_PAYLOAD.SKIP on this hardware. -/
def execWrPayloadSkip (c : List Byte) (s : State) : Out := wrPayloadSkipFor Config.device c s

/-- The first page since the device's reset resets the target (R191). -/
def State.ensureStarted (s : State) : State := if s.started then s else s.resetTarget

/-- LOAD_ADDRESS and its handshake (R141, R192). -/
def State.openPage (cfg : Config) (s : State) : State :=
  (s.ensureStarted.txAll (loadAddressBytes cfg s.wordAddr)).handshake cfg .waitLa

/-- WR_PAYLOAD.OPEN (R141): the chunk stays in `chunkBuf`; `ci` is not advanced. -/
def wrPayloadOpenFor (cfg : Config) (c : List Byte) (s : State) : Out :=
  whenEnabled (s.payloadDue cfg .first) s ((s.fetchChunk c).openPage cfg)

/-- WR_PAYLOAD.OPEN on this hardware. -/
def execWrPayloadOpen (c : List Byte) (s : State) : Out := wrPayloadOpenFor Config.device c s

/-- WR_PAYLOAD.MID (R142). -/
def wrPayloadMidFor (cfg : Config) (c : List Byte) (s : State) : Out :=
  whenEnabled (s.payloadDue cfg .mid) s ((s.fetchChunk c).txAll c).nextChunk

/-- WR_PAYLOAD.MID on this hardware. -/
def execWrPayloadMid (c : List Byte) (s : State) : Out := wrPayloadMidFor Config.device c s

/-- WR_PAYLOAD.LAST (R143): `ci` is not advanced. -/
def wrPayloadLastFor (cfg : Config) (c : List Byte) (s : State) : Out :=
  whenEnabled (s.payloadDue cfg .last) s
    (((s.fetchChunk c).txAll c).handshake cfg .waitPg)

/-- WR_PAYLOAD.LAST on this hardware. -/
def execWrPayloadLast (c : List Byte) (s : State) : Out := wrPayloadLastFor Config.device c s

/-- The block is released and the sequencer is between tasks (R139). -/
def State.endBlock (s : State) : State := { s with blkData := none, upc := .idle }

/-- WR_END (R139), with completion (R140). -/
def wrEndFor (cfg : Config) (s : State) : Out :=
  whenEnabled (s.atEnd cfg) s
    (if s.completes cfg then s.complete.endBlock else s.endBlock)

/-- WR_END on this hardware. -/
def execWrEnd (s : State) : Out := wrEndFor Config.device s

end Sys2Proof.Machine
end

