-- ==== Sys2Proof/Machine/Emitted.lean ====
section
/-! DEFINITION. The emitted units as operations of their own (`30_encoding.md` R92, R99 to R109): each does the part of an
operation that emits it and nothing else (log 5). -/

namespace Sys2Proof.Machine

/-- LOAD_ADDRESS: the three bytes of R99; the handshake that follows is SYNC's. -/
def loadAddressFor (cfg : Config) (a : BitVec 16) (s : State) : Out := .next (s.txAll (loadAddressBytes cfg a))

/-- LOAD_ADDRESS on this hardware. -/
def execLoadAddress (a : BitVec 16) (s : State) : Out := loadAddressFor Config.device a s

/-- SYNC: the handshake's clear, bound and byte (R200); the position the wait takes is its caller's. -/
def syncFor (cfg : Config) (s : State) : Out := .next (s.sendSync cfg)

/-- SYNC on this hardware. -/
def execSync (s : State) : Out := syncFor Config.device s

/-- PROG_PAGE: the four bytes of R100. -/
def progPageFor (cfg : Config) (size : BitVec 16) (term : Byte) (s : State) : Out :=
  .next (s.txAll (progPageBytes cfg size term))

/-- PROG_PAGE on this hardware. -/
def execProgPage (size : BitVec 16) (term : Byte) (s : State) : Out := progPageFor Config.device size term s

/-- DATA: the chunk's bytes verbatim (R102, R194). -/
def execData (c : List Byte) (s : State) : Out := .next (s.txAll c)

/-- RESET(START) (R191). -/
def execResetStart (s : State) : Out := .next s.resetTarget

/-- RESET(FINISH) (R196). -/
def execResetFinish (s : State) : Out := .next s.restartTarget

/-- REPLY: assembly and flush of a reply (R233, R234). -/
def replyFor (cfg : Config) (body : List Byte) (s : State) : Out := .next (s.sendReply cfg body)

/-- REPLY on this hardware. -/
def execReply (body : List Byte) (s : State) : Out := replyFor Config.device body s

/-- RELAY_PACKET: a data-relay packet (R109, R240). -/
def relayPacketFor (cfg : Config) (body : List Byte) (s : State) : Out := .next (s.sendRelay cfg body)

/-- RELAY_PACKET on this hardware. -/
def execRelayPacket (body : List Byte) (s : State) : Out := relayPacketFor Config.device body s

/-- REBOOT (R262). -/
def rebootFor (cfg : Config) (cause : Cause) (s : State) : Out := .next (s.rebootFor cfg cause)

/-- REBOOT on this hardware. -/
def execReboot (cause : Cause) (s : State) : Out := rebootFor Config.device cause s

end Sys2Proof.Machine
end

