-- ==== Sys2Proof/Machine/Fetch.lean ====
section
/-! DEFINITION. What a step is about to run (log 1): the next event's unit, or the operation that the sequencer position
selects (`30_encoding.md` R92, `40_uf2_decoder.md` R131). -/

namespace Sys2Proof.Machine

/-- A host transaction that waits in its transport while a block is in flight (R130, R230). -/
def Event.waits : Event → Bool
  | .wr _ _ => true
  | .rd _ => true
  | .hid _ => true
  | .rx _ => false
  | .tick => false
  | .relay => false
  | .drain => false
  | .wdt => false
  | .por => false
  | .seq => false
  | .unit _ _ => false

/-- The next event, and the events left: the first one, or, while a block is in flight, the first that does not wait. -/
def nextEvent (busy : Bool) : List Event → Option (Event × List Event)
  | [] => none
  | e :: es =>
    if busy && e.waits then
      match nextEvent busy es with
      | some (f, rest) => some (f, e :: rest)
      | none => none
    else some (e, es)

/-- What a step finds to do. -/
inductive Turn where
  /-- A unit, to be run in the state `s`. -/
  | run (u : Presented) (s : State)
  /-- Nothing is enabled: the main loop polls (R23, "all blocking is busy-polling"). -/
  | poll (s : State)
  /-- The sequencer position has no row in R247. -/
  | stuck
deriving DecidableEq, Repr

/-- The chunk operation that `ci` selects (R131), in the block `d` in flight. -/
def chunkTurn (cfg : Config) (d : List Byte) (s : State) : Turn :=
  let i := s.ci.toNat
  let c := chunkOf cfg d i
  if i = 0 then .run ⟨.header, c⟩ s
  else if i = 1 then .run ⟨.metadata, c⟩ s
  else if i < cfg.nchunk then .run ⟨.payload (s.payloadForm cfg), c⟩ s
  else if i = cfg.nchunk then .run ⟨.blockEnd, []⟩ s
  else .stuck

/-- The main sequencer's own next operation (R23, R247). -/
def sequencerTurn (cfg : Config) (s : State) : Turn :=
  match s.upc with
  | .idle => .poll s
  | .blk =>
    match s.blkData with
    | some d => chunkTurn cfg d s
    | none => .stuck
  | .waitLa => if s.acked .waitLa then .run ⟨.ackedLa, []⟩ s else .poll s
  | .waitPg => if s.acked .waitPg then .run ⟨.ackedPg, []⟩ s else .poll s

/-- The turn an event gives, in the state without it. -/
def eventTurn (cfg : Config) (e : Event) (s : State) : Turn :=
  match e with
  | .wr lba d => .run ⟨.blockWrite, bytesLE32 lba ++ d⟩ s
  | .rd lba => .run ⟨.blockRead, bytesLE32 lba⟩ s
  | .hid p => .run ⟨.hidOut, p⟩ s
  | .rx b => .run ⟨.rx, [b]⟩ s
  | .tick => .run ⟨.flushTick, []⟩ s
  | .relay => .run ⟨.relay, []⟩ s
  | .drain => .run ⟨.drain, []⟩ s
  | .wdt => .run ⟨.wdt, []⟩ s
  | .por => .run ⟨.por, []⟩ s
  | .seq => sequencerTurn cfg s
  | .unit u bs => .run ⟨.emitted u, bs⟩ s

/-- What this step runs: the next event's turn; with no event, the sequencer goes on by itself. -/
def fetch (cfg : Config) (s : State) : Turn :=
  match nextEvent (!s.isIdle) s.events with
  | some (e, rest) => eventTurn cfg e { s with events := rest }
  | none => sequencerTurn cfg s

/-- `s` with the unit `u` stored where the next step fetches it: as the first event, or, for a header chunk, in the block
in flight at chunk 0. The units of other positions have no word of their own. -/
def State.present (u : Presented) (s : State) : State :=
  match u.port with
  | .hidOut => { s with upc := .idle, events := .hid u.bytes :: s.events }
  | .rx => { s with events := .rx (byteAt u.bytes 0) :: s.events }
  | .header =>
    { s with upc := .blk, ci := 0, blkData := some (padTo Config.device.blk u.bytes), events := .seq :: s.events }
  | .emitted p => { s with events := .unit p u.bytes :: s.events }
  | .blockWrite => s
  | .metadata => s
  | .payload _ => s
  | .blockEnd => s
  | .ackedLa => s
  | .ackedPg => s
  | .blockRead => s
  | .flushTick => s
  | .relay => s
  | .drain => s
  | .wdt => s
  | .por => s

end Sys2Proof.Machine
end

