-- ==== Sys2Proof/Machine/Handshake.lean ====
section
/-! DEFINITION. The continuations of the two handshakes (`42_serial_programmer.md` R193, R195). -/

namespace Sys2Proof.Machine

/-- After the load-address acknowledgment: the program-page header, the held chunk, and on to the next chunk, or, where
a page is one chunk, to the page-commit handshake (R193). -/
def State.programPage (cfg : Config) (s : State) : State :=
  let t := (s.endWait.txAll (progPageBytes cfg (BitVec.ofNat 16 cfg.page) cfg.ppTerm)).txAll s.chunkBuf
  if cfg.cpp = 1 then t.handshake cfg .waitPg else { t.nextChunk with upc := .blk }

/-- HS_DONE_LA (R193). -/
def hsDoneLaFor (cfg : Config) (s : State) : Out := whenEnabled (s.acked .waitLa) s (s.programPage cfg)

/-- HS_DONE_LA on this hardware. -/
def execHsDoneLa (s : State) : Out := hsDoneLaFor Config.device s

/-- After the page-commit acknowledgment: one page less, the address half a page size of words further (R195). -/
def State.commitPage (cfg : Config) (s : State) : State :=
  { s.endWait.nextChunk with
    pagesPending := s.pagesPending - 1
    wordAddr := s.wordAddr + BitVec.ofNat 16 (cfg.page / 2)
    upc := .blk }

/-- HS_DONE_PG (R195). -/
def hsDonePgFor (cfg : Config) (s : State) : Out := whenEnabled (s.acked .waitPg) s (s.commitPage cfg)

/-- HS_DONE_PG on this hardware. -/
def execHsDonePg (s : State) : Out := hsDonePgFor Config.device s

end Sys2Proof.Machine
end

