-- ==== Sys2Proof/Machine/Hid.lean ====
section
/-! DEFINITION. The HID commands, the tunnel and the relay (`43_hid_hf2.md` R231 to R240). -/

namespace Sys2Proof.Machine

/-- HID_TUNNEL (R231): no reply; the bytes are queued in packet order. -/
def hidTunnelFor (cfg : Config) (k : BitVec 7) (body : List Byte) (s : State) : Out :=
  whenEnabled s.isIdle s { s with h2t := pushAll cfg.h2tCap s.h2t (tunnelBytes k body) }

/-- HID_TUNNEL on this hardware. -/
def execHidTunnel (k : BitVec 7) (body : List Byte) (s : State) : Out := hidTunnelFor Config.device k body s

/-- HID_BININFO (R236). -/
def hidBininfoFor (cfg : Config) (tag : BitVec 16) (s : State) : Out :=
  whenEnabled s.isIdle s
    (s.sendReply cfg (replyHeader tag cfg.stOk ++ bininfoData cfg))

/-- HID_BININFO on this hardware. -/
def execHidBininfo (tag : BitVec 16) (s : State) : Out := hidBininfoFor Config.device tag s

/-- HID_INFO (R237). -/
def hidInfoFor (cfg : Config) (tag : BitVec 16) (s : State) : Out :=
  whenEnabled s.isIdle s
    (s.sendReply cfg (replyHeader tag cfg.stOk ++ cfg.ident))

/-- HID_INFO on this hardware. -/
def execHidInfo (tag : BitVec 16) (s : State) : Out := hidInfoFor Config.device tag s

/-- HID_UNKNOWN (R238). -/
def hidUnknownFor (cfg : Config) (_cmd : BitVec 32) (tag : BitVec 16) (s : State) : Out :=
  whenEnabled s.isIdle s (s.sendReply cfg (replyHeader tag cfg.stInvalid))

/-- HID_UNKNOWN on this hardware. -/
def execHidUnknown (cmd : BitVec 32) (tag : BitVec 16) (s : State) : Out := hidUnknownFor Config.device cmd tag s

/-- FLUSH_TICK (R239). -/
def execFlushTick (s : State) : Out := whenEnabled s.isIdle s { s with flushPending := true }

/-- Up to one packet's worth of bytes leaves `t2h` for the host (R240). -/
def State.relayOut (cfg : Config) (s : State) : State :=
  let n := relayCount cfg s.t2h
  let rest := s.t2h.drop n
  { s.sendRelay cfg (s.t2h.take n) with t2h := rest, flushPending := decide (rest ≠ []) }

/-- RELAY (R240). -/
def relayFor (cfg : Config) (s : State) : Out := whenEnabled s.canRelay s (s.relayOut cfg)

/-- RELAY on this hardware. -/
def execRelay (s : State) : Out := relayFor Config.device s

end Sys2Proof.Machine
end

