-- ==== Sys2Proof/Machine/Serial.lean ====
section
/-! DEFINITION. The serial bridge: the receive interrupt and the drain (`42_serial_programmer.md` R205 to R207). -/

namespace Sys2Proof.Machine

/-- `Tx(Pop(h2t))` (R207). -/
def State.drainOne (s : State) : State :=
  match s.h2t with
  | [] => s
  | b :: rest => { s with h2t := rest }.tx b

/-- DRAIN (R207). -/
def execDrain (s : State) : Out := whenEnabled s.canDrain s s.drainOne

/-- RX_ACK (R205): counted whether or not a wait is pending, and queued like any byte. -/
def rxAckFor (cfg : Config) (s : State) : Out :=
  .next { s.receive cfg cfg.ackByte with ackCount := nextAckCount cfg s.ackCount }

/-- RX_ACK on this hardware. -/
def execRxAck (s : State) : Out := rxAckFor Config.device s

/-- RX_OTHER (R206). -/
def rxOtherFor (cfg : Config) (b : Byte) (s : State) : Out := .next (s.receive cfg b)

/-- RX_OTHER on this hardware. -/
def execRxOther (b : Byte) (s : State) : Out := rxOtherFor Config.device b s

end Sys2Proof.Machine
end

