-- ==== Sys2Proof/Machine/System.lean ====
section
/-! DEFINITION. The watchdog and the external reset (`60_exceptions.md` R262 to R264, `70_reset_and_hazards.md` R290). -/

namespace Sys2Proof.Machine

/-- WDT_EXPIRE: a handshake time-out (R263) or the completion reboot (R264); not enabled while the watchdog is off
(R263 (b)). -/
def wdtExpireFor (cfg : Config) (s : State) : Out :=
  match s.wdt with
  | .off => .next s
  | .hs => .next (s.rebootFor cfg .hsTimeout)
  | .done => .next (s.rebootFor cfg .done)

/-- WDT_EXPIRE on this hardware. -/
def execWdtExpire (s : State) : Out := wdtExpireFor Config.device s

/-- POR (R290), always enabled. -/
def porFor (cfg : Config) (s : State) : Out := .next (s.rebootFor cfg .por)

/-- POR on this hardware. -/
def execPor (s : State) : Out := porFor Config.device s

end Sys2Proof.Machine
end

