-- ==== Sys2Proof/Machine/Configured.lean ====
section
/-! DEFINITION. The step relation with the configuration as its argument (`00_scope.md` R6, `10_state.md` R41): the same
operations as `exec` and `step`, which are these at `Config.device` (Laws/Configured.lean). -/

namespace Sys2Proof.Machine

/-- What each operation does in the configuration `cfg`; an operation that reads no parameter is the device's. For a
configuration that is not valid see `stepFor`. -/
def execFor (cfg : Config) (i : Instr) (s : State) : Out :=
  match i with
  | .wrBegin lba d => execWrBegin lba d s
  | .wrHdrLive c => wrHdrLiveFor cfg c s
  | .wrHdrSkip c => execWrHdrSkip c s
  | .wrHdrNomagic c => execWrHdrNomagic c s
  | .wrMeta c => wrMetaFor cfg c s
  | .wrPayloadSkip c => wrPayloadSkipFor cfg c s
  | .wrPayloadOpen c => wrPayloadOpenFor cfg c s
  | .wrPayloadMid c => wrPayloadMidFor cfg c s
  | .wrPayloadLast c => wrPayloadLastFor cfg c s
  | .wrEnd => wrEndFor cfg s
  | .hsDoneLa => hsDoneLaFor cfg s
  | .hsDonePg => hsDonePgFor cfg s
  | .rdBoot => rdBootFor cfg s
  | .rdFat lba => rdFatFor cfg lba s
  | .rdRoot lba => rdRootFor cfg lba s
  | .rdData lba => rdDataFor cfg lba s
  | .rdZero lba => execRdZero lba s
  | .hidTunnel k body => hidTunnelFor cfg k body s
  | .hidBininfo tag => hidBininfoFor cfg tag s
  | .hidInfo tag => hidInfoFor cfg tag s
  | .hidUnknown cmd tag => hidUnknownFor cfg cmd tag s
  | .flushTick => execFlushTick s
  | .relay => relayFor cfg s
  | .drain => execDrain s
  | .rxAck => rxAckFor cfg s
  | .rxOther b => rxOtherFor cfg b s
  | .wdtExpire => wdtExpireFor cfg s
  | .por => porFor cfg s
  | .loadAddress a => loadAddressFor cfg a s
  | .sync => syncFor cfg s
  | .progPage size term => progPageFor cfg size term s
  | .data c => execData c s
  | .resetStart => execResetStart s
  | .resetFinish => execResetFinish s
  | .reply body => replyFor cfg body s
  | .relayPacket body => relayPacketFor cfg body s
  | .reboot cause => rebootFor cfg cause s

/-- A turn, run: the unit is decoded by `dec` and executed by `ex`. -/
def runTurn (dec : Port → List Byte → Decoded) (ex : Instr → State → Out) (turn : Turn) : Out :=
  match turn with
  | .run u t =>
    match dec u.port u.bytes with
    | .ok i => ex i t
    | .error e => .refused (.badUnit e)
  | .poll t => .next t
  | .stuck => .fault .offTable

/-- One step in the configuration `cfg`. R295 leaves a model undefined where `cfg.valid` is false; this function takes a
bare configuration and answers there what its equations give (DESIGN CHOICE, log 22): a claim about a device takes
`cfg.valid = true` as its premise. -/
def stepFor (cfg : Config) (s : State) : Out := runTurn (decodeFor cfg) (execFor cfg) (fetch cfg s)

end Sys2Proof.Machine
end

