-- ==== Sys2Proof/Machine/Dispatch.lean ====
section
/-! DEFINITION. One arm per operation or emitted unit; each arm is one direct call of its meaning. -/

namespace Sys2Proof.Machine

def exec (i : Instr) (s : State) : Host.Outcome State Fault Refusal :=
  match i with
  | .wrBegin lba d => Sys2Proof.Machine.execWrBegin lba d s
  | .wrHdrLive c => Sys2Proof.Machine.execWrHdrLive c s
  | .wrHdrSkip c => Sys2Proof.Machine.execWrHdrSkip c s
  | .wrHdrNomagic c => Sys2Proof.Machine.execWrHdrNomagic c s
  | .wrMeta c => Sys2Proof.Machine.execWrMeta c s
  | .wrPayloadSkip c => Sys2Proof.Machine.execWrPayloadSkip c s
  | .wrPayloadOpen c => Sys2Proof.Machine.execWrPayloadOpen c s
  | .wrPayloadMid c => Sys2Proof.Machine.execWrPayloadMid c s
  | .wrPayloadLast c => Sys2Proof.Machine.execWrPayloadLast c s
  | .wrEnd => Sys2Proof.Machine.execWrEnd s
  | .hsDoneLa => Sys2Proof.Machine.execHsDoneLa s
  | .hsDonePg => Sys2Proof.Machine.execHsDonePg s
  | .rdBoot => Sys2Proof.Machine.execRdBoot s
  | .rdFat lba => Sys2Proof.Machine.execRdFat lba s
  | .rdRoot lba => Sys2Proof.Machine.execRdRoot lba s
  | .rdData lba => Sys2Proof.Machine.execRdData lba s
  | .rdZero lba => Sys2Proof.Machine.execRdZero lba s
  | .hidTunnel k body => Sys2Proof.Machine.execHidTunnel k body s
  | .hidBininfo tag => Sys2Proof.Machine.execHidBininfo tag s
  | .hidInfo tag => Sys2Proof.Machine.execHidInfo tag s
  | .hidUnknown cmd tag => Sys2Proof.Machine.execHidUnknown cmd tag s
  | .flushTick => Sys2Proof.Machine.execFlushTick s
  | .relay => Sys2Proof.Machine.execRelay s
  | .drain => Sys2Proof.Machine.execDrain s
  | .rxAck => Sys2Proof.Machine.execRxAck s
  | .rxOther b => Sys2Proof.Machine.execRxOther b s
  | .wdtExpire => Sys2Proof.Machine.execWdtExpire s
  | .por => Sys2Proof.Machine.execPor s
  | .loadAddress a => Sys2Proof.Machine.execLoadAddress a s
  | .sync => Sys2Proof.Machine.execSync s
  | .progPage size term => Sys2Proof.Machine.execProgPage size term s
  | .data c => Sys2Proof.Machine.execData c s
  | .resetStart => Sys2Proof.Machine.execResetStart s
  | .resetFinish => Sys2Proof.Machine.execResetFinish s
  | .reply body => Sys2Proof.Machine.execReply body s
  | .relayPacket body => Sys2Proof.Machine.execRelayPacket body s
  | .reboot cause => Sys2Proof.Machine.execReboot cause s

end Sys2Proof.Machine
end

