-- ==== Sys2Proof/Machine/Step.lean ====
section
/-! DEFINITION. One step: one atomic operation of the total order (`20_memory.md` R80). -/

namespace Sys2Proof.Machine

/-- Fetch the unit whose turn it is, decode it, run it. -/
def step (s : State) : Host.Outcome State Fault Refusal := runTurn decode exec (fetch Config.device s)

/-- `s` with the opcode table's word stored where `step` fetches next (log 3, log 6); `s` itself for a word that names
no unit. -/
def State.withFetchWord (s : State) (nbits w : Nat) : State :=
  match tableUnit nbits w with
  | some u => s.present u
  | none => s

end Sys2Proof.Machine
end

