-- ==== Sys2Proof/Safety.lean ====
section
/-! DEFINITION. What counts as a safe run, in the terms the statements use: which operation is enabled where
(`30_encoding.md` R92), which events the spec's interfaces offer, the invariants of the state, the table of sequencer
positions (`44_common_laws.md` R247), and the bytes a page puts on the wire (`42_serial_programmer.md` R190). -/

namespace Sys2Proof.Machine

/-- The enabling condition that R92 gives each operation; an emitted unit has none. -/
def enabled (i : Instr) (s : State) : Bool :=
  match i with
  | .wrBegin _ _ => s.isIdle
  | .wrHdrLive _ => s.atHeader
  | .wrHdrSkip _ => s.atHeader
  | .wrHdrNomagic _ => s.atHeader
  | .wrMeta _ => s.atMetadata
  | .wrPayloadSkip _ => s.payloadDue Config.device .skip
  | .wrPayloadOpen _ => s.payloadDue Config.device .first
  | .wrPayloadMid _ => s.payloadDue Config.device .mid
  | .wrPayloadLast _ => s.payloadDue Config.device .last
  | .wrEnd => s.atEnd Config.device
  | .hsDoneLa => s.acked .waitLa
  | .hsDonePg => s.acked .waitPg
  | .rdBoot => s.isIdle
  | .rdFat _ => s.isIdle
  | .rdRoot _ => s.isIdle
  | .rdData _ => s.isIdle
  | .rdZero _ => s.isIdle
  | .hidTunnel _ _ => s.isIdle
  | .hidBininfo _ => s.isIdle
  | .hidInfo _ => s.isIdle
  | .hidUnknown _ _ => s.isIdle
  | .flushTick => s.isIdle
  | .relay => s.canRelay
  | .drain => s.canDrain
  | .rxAck => true
  | .rxOther _ => true
  | .wdtExpire => decide (s.wdt ≠ .off)
  | .por => true
  | .loadAddress _ => true
  | .sync => true
  | .progPage _ _ => true
  | .data _ => true
  | .resetStart => true
  | .resetFinish => true
  | .reply _ => true
  | .relayPacket _ => true
  | .reboot _ => true

/-- An event that an interface of the spec offers (R47 to R51): a block of 512 bytes, a packet of 64; never a single
emitted unit. -/
def Event.offered : Event → Bool
  | .wr _ d => d.length == Config.device.blk
  | .rd _ => true
  | .hid p => p.length == Config.device.pkt
  | .rx _ => true
  | .tick => true
  | .relay => true
  | .drain => true
  | .wdt => true
  | .por => true
  | .seq => true
  | .unit _ _ => false

/-- The sequencer waits for an acknowledgment: the source's "handshake-pending flag" (R21). -/
def State.waiting (s : State) : Prop := s.upc = .waitLa ∨ s.upc = .waitPg

/-- What holds between any two operations when the environment offers only events of the spec. -/
structure State.Inv (s : State) : Prop where
  /-- `chunkBuf` holds one chunk (R21). -/
  chunk_length : s.chunkBuf.length = 16
  /-- `txBuf` holds one packet (R40). -/
  packet_length : s.txBuf.length = 64
  /-- `h2t` is within its capacity (R37). -/
  h2t_capacity : s.h2t.length ≤ 128
  /-- `t2h` is within its capacity (R39). -/
  t2h_capacity : s.t2h.length ≤ 128
  /-- `ci` counts 0 to 32 (R22). -/
  ci_range : s.ci.toNat ≤ 32
  /-- A block is latched exactly while one is in flight (R21, R23). -/
  block_latched : s.upc = .idle ↔ s.blkData = none
  /-- A latched block has 512 bytes (R21). -/
  block_length : ∀ d, s.blkData = some d → d.length = 512
  /-- The handshake bound is armed only inside a wait (R263). -/
  armed_waits : s.wdt = .hs → s.waiting
  /-- Every wait is bounded by an armed watchdog (R30, R200). -/
  wait_bounded : s.waiting → s.wdt ≠ .off
  /-- WAIT_LA is entered from the chunk that opens a page of a live block (R247). -/
  wait_la : s.upc = .waitLa → 2 ≤ s.ci.toNat ∧ s.ci.toNat < 32 ∧ (s.ci.toNat - 2) % 8 = 0 ∧ s.programs = true
  /-- WAIT_PG is entered from the chunk that completes a page of a live block (R247). -/
  wait_pg : s.upc = .waitPg → 2 ≤ s.ci.toNat ∧ s.ci.toNat < 32 ∧ (s.ci.toNat - 2) % 8 = 7 ∧ s.programs = true
  /-- Between operations the target reset line is released (R293). -/
  line_released : s.resetLine = .released
  /-- What is still to come is offered by an interface of the spec. -/
  events_offered : ∀ e ∈ s.events, e.offered = true

/-- `popcount(bitmap)` (R28). -/
def popcount (b : BitVec 256) : Nat := (List.range 256).countP (fun i => b.getLsbD i)

/-- R28 (c): `writtenCount` never exceeds the recorded indices, with equality until the first completion since reset,
which is when the watchdog holds DONE (R30). -/
structure State.CountInv (s : State) : Prop where
  /-- `writtenCount <= popcount(bitmap)`. -/
  count_le : s.writtenCount.toNat ≤ popcount s.bitmap
  /-- Equality until the first completion since reset. -/
  count_eq : s.wdt ≠ .done → s.writtenCount.toNat = popcount s.bitmap

/-- R62: the greatest word address. -/
structure State.AddressBound (s : State) : Prop where
  /-- It never exceeds 0x80BF. -/
  word_le : s.wordAddr.toNat ≤ 0x80BF
  /-- In a live block past its header it is at most 0x7FFF, and 64 words for each page position that `ci` has passed. -/
  live_le : s.upc ≠ .idle → s.inert = false → s.ci.toNat ≠ 0 →
    s.wordAddr.toNat ≤ 0x7FFF + 64 * ((s.ci.toNat - 2) / 8)

/-- `k` steps, stopping at the first fault or refusal. -/
def steps : Nat → State → Out
  | 0, s => .next s
  | k + 1, s =>
    match step s with
    | .next t => steps k t
    | .fault r => .fault r
    | .refused r => .refused r

/-- The position an enabled operation leaves, as R247 tabulates it; `ci` is given only where the table gives it. -/
def positionAfter (i : Instr) (s : State) : Upc × Option (BitVec 6) :=
  match i with
  | .wrBegin _ _ => (.blk, some 0)
  | .wrHdrLive _ => (.blk, some 1)
  | .wrHdrSkip _ => (.blk, some 1)
  | .wrHdrNomagic _ => (.blk, some 1)
  | .wrMeta _ => (.blk, some 2)
  | .wrPayloadSkip _ => (.blk, some (s.ci + 1))
  | .wrPayloadOpen _ => (.waitLa, some s.ci)
  | .wrPayloadMid _ => (.blk, some (s.ci + 1))
  | .wrPayloadLast _ => (.waitPg, some s.ci)
  | .wrEnd => (.idle, none)
  | .hsDoneLa => (.blk, some (s.ci + 1))
  | .hsDonePg => (.blk, some (s.ci + 1))
  | .rdBoot => (.idle, none)
  | .rdFat _ => (.idle, none)
  | .rdRoot _ => (.idle, none)
  | .rdData _ => (.idle, none)
  | .rdZero _ => (.idle, none)
  | .hidTunnel _ _ => (.idle, none)
  | .hidBininfo _ => (.idle, none)
  | .hidInfo _ => (.idle, none)
  | .hidUnknown _ _ => (.idle, none)
  | .flushTick => (.idle, none)
  | .relay => (.idle, none)
  | .drain => (.idle, none)
  | .rxAck => (s.upc, some s.ci)
  | .rxOther _ => (s.upc, some s.ci)
  | .wdtExpire => (.idle, some 0)
  | .por => (.idle, some 0)
  | .loadAddress _ => (s.upc, some s.ci)
  | .sync => (s.upc, some s.ci)
  | .progPage _ _ => (s.upc, some s.ci)
  | .data _ => (s.upc, some s.ci)
  | .resetStart => (s.upc, some s.ci)
  | .resetFinish => (s.upc, some s.ci)
  | .reply _ => (s.upc, some s.ci)
  | .relayPacket _ => (s.upc, some s.ci)
  | .reboot _ => (.idle, some 0)

/-- What one page puts on `serOut` (R190): steps 1 to 7, for word address `w` and the page's bytes. -/
def pageTraffic (w : BitVec 16) (bytes : List Byte) : List SerEvent :=
  ([0x55#8, w.extractLsb' 0 8, w.extractLsb' 8 8, 0x20#8] ++ [0x64#8, 0x00#8, 0x80#8, 0x20#8] ++ bytes
    ++ [0x20#8]).map SerEvent.tx

/-- RESET(START) where the target has not been reset yet (R190 step 0, R191). -/
def startTraffic (started : Bool) : List SerEvent := if started then [] else [SerEvent.resetStart]

/-- The turns of one page with a target that acknowledges each handshake (R190): open, acknowledge, program, six middle
chunks, last chunk, acknowledge, commit. -/
def pageTurns : List Event :=
  [.seq, .rx 0x10, .seq, .seq, .seq, .seq, .seq, .seq, .seq, .seq, .rx 0x10, .seq]

end Sys2Proof.Machine
end

