-- ==== Sys2Proof/Certificates/Slice0/Obligations.lean ====
section
/-! DEFINITION. The statements for the provers: what the numbered rules of spec/ say the device does. Where a statement
gives an operation's next state as `{ s with … }`, every field that is not named is unchanged: that is its frame. State
holds no memory cells (`20_memory.md` R61), so there is no byte of memory to frame; the two rings and the block in
flight are fields. -/

open Sys2Proof Sys2Proof.Machine

/-! ### Configuration and reset -/

/-- R7: the default values of R6 form a valid configuration. -/
def Obligations.DefaultConfigurationIsValid : Prop := Config.device.valid = true

/-- R55, R262: whatever the cause, a reboot leaves every register, flag, ring and buffer at the value R55 states, appends
the cause to `sysOut` and keeps the other traces. The state after it is State.reset up to the observation, the events
still offered and `chunkBuf`, which R55 leaves unspecified and this statement does not claim. -/
def Obligations.RebootLeavesResetValues : Prop :=
  ∀ (s : State) (cause : Cause),
    let t := s.reboot cause
    t.upc = .idle ∧ t.ci = 0 ∧ t.inert = false ∧ t.wordAddr = 0 ∧ t.pagesPending = 0 ∧ t.started = false
      ∧ t.blkData = none ∧ t.expCount = 0x00000000 ∧ t.bitmap = 0 ∧ t.writtenCount = 0 ∧ t.ackCount = 0
      ∧ t.wdt = .off ∧ t.h2t = [] ∧ t.t2h = [] ∧ t.flushPending = false ∧ t.txBuf = zeros 64
      ∧ t.resetLine = .released ∧ t.serOut = s.serOut ∧ t.hidOut = s.hidOut ∧ t.sysOut = s.sysOut ++ [cause]
      ∧ { t with chunkBuf := State.reset.chunkBuf, serOut := [], hidOut := [], sysOut := [], mscReply := none,
                 events := [] } = State.reset

/-! ### Encodings -/

/-- R90 to R117: the decoder gives back every well-formed instruction from its encoding, with every operand at every
value. The bytes that present WR, RD, the reset-line events and REBOOT are the model's (log 4). -/
def Obligations.DecodeGivesBackEncoded : Prop :=
  ∀ i : Instr, i.wf = true → decode (encode i).port (encode i).bytes = .ok i

/-- The other direction, for every format that has no ignored bits (R119 lists the ignored ones): a unit that decodes is
the encoding of what it decodes to. -/
def Obligations.EncodeGivesBackDecoded : Prop :=
  ∀ (p : Port) (bs : List Byte) (i : Instr), p ≠ .hidOut → decode p bs = .ok i → encode i = ⟨p, bs⟩

/-- What the decoder answers is well-formed: its operands are ones that its row of R92 selects. -/
def Obligations.DecodedIsWellFormed : Prop :=
  ∀ (p : Port) (bs : List Byte) (i : Instr), decode p bs = .ok i → i.wf = true

/-- R119: no input is illegal. Every 512-byte block, every chunk, every block number, every 64-byte packet and every
received byte selects an operation. The bytes that present a write and a read are the model's (log 4). -/
def Obligations.EveryInputSelectsAnOperation : Prop :=
  (∀ (lba : BitVec 32) (d : List Byte), d.length = 512 → ∃ i, decode .blockWrite (bytesLE32 lba ++ d) = .ok i)
    ∧ (∀ c : List Byte, c.length = 16 →
        (∃ i, decode .header c = .ok i) ∧ (∃ i, decode .metadata c = .ok i)
          ∧ ∀ f : PayloadForm, ∃ i, decode (.payload f) c = .ok i)
    ∧ (∀ lba : BitVec 32, ∃ i, decode .blockRead (bytesLE32 lba) = .ok i)
    ∧ (∀ p : List Byte, p.length = 64 → ∃ i, decode .hidOut p = .ok i)
    ∧ (∀ b : Byte, ∃ i, decode .rx [b] = .ok i)

/-- R93: the class of a block is decided by its first 9 bytes and nothing else: it is live exactly where the magic matches
and bit 0 of byte 8 is clear, skipped exactly where the magic matches and the bit is set, and not UF2 exactly where the
magic differs; the two inert classes are treated identically. -/
def Obligations.HeaderClassFromMagicAndSkipFlag : Prop :=
  ∀ d : List Byte, d.length = 512 →
    let c := d.take 16
    (decode .header c = .ok (.wrHdrLive c) ↔
        d.take 8 = [0x55#8, 0x46#8, 0x32#8, 0x0A#8, 0x57#8, 0x51#8, 0x5D#8, 0x9E#8] ∧ (byteAt d 8).getLsbD 0 = false)
      ∧ (decode .header c = .ok (.wrHdrSkip c) ↔
        d.take 8 = [0x55#8, 0x46#8, 0x32#8, 0x0A#8, 0x57#8, 0x51#8, 0x5D#8, 0x9E#8] ∧ (byteAt d 8).getLsbD 0 = true)
      ∧ (decode .header c = .ok (.wrHdrNomagic c) ↔
        d.take 8 ≠ [0x55#8, 0x46#8, 0x32#8, 0x0A#8, 0x57#8, 0x51#8, 0x5D#8, 0x9E#8])
      ∧ ∀ s : State, exec (.wrHdrSkip c) s = exec (.wrHdrNomagic c) s

/-- R107, R232: which operation a packet selects, and its operands: with bit 7 of the framing byte set, a tunnel packet
with the count in bits 6 to 0; with it clear, a command chosen by the 32-bit id in bytes 1 to 4, with the tag in bytes 5
and 6. -/
def Obligations.PacketSelectsItsOperation : Prop :=
  ∀ p : List Byte, p.length = 64 →
    ((byteAt p 0).getLsbD 7 = true →
      decode .hidOut p = .ok (.hidTunnel ((byteAt p 0).setWidth 7) (p.drop 1)))
    ∧ ((byteAt p 0).getLsbD 7 = false →
      let cmd := byteAt p 4 ++ byteAt p 3 ++ byteAt p 2 ++ byteAt p 1
      let tag := byteAt p 6 ++ byteAt p 5
      (cmd = 0x00000001 → decode .hidOut p = .ok (.hidBininfo tag))
        ∧ (cmd = 0x00000002 → decode .hidOut p = .ok (.hidInfo tag))
        ∧ (cmd ≠ 0x00000001 → cmd ≠ 0x00000002 → decode .hidOut p = .ok (.hidUnknown cmd tag)))

/-- R106, R232: a command packet is read from bytes 1 to 6 alone; bits 6 to 0 of its framing byte, the reserved bits and
the command's data are ignored. -/
def Obligations.CommandReadsHeaderBytesOnly : Prop :=
  ∀ p q : List Byte, p.length = 64 → q.length = 64 →
    (byteAt p 0).getLsbD 7 = false → (byteAt q 0).getLsbD 7 = false →
    (p.drop 1).take 6 = (q.drop 1).take 6 → decode .hidOut p = decode .hidOut q

/-- Words written out from the encodings: R93 and R132's example, R107 (V40), R105 (V50), R103, R99, R100, R101. The one
other word, the read of block 33, is no encoding of the spec: R92 and R113 give RD a block number and no bytes, and the
model presents it as `LE32(lba)` (DESIGN CHOICE, log 4). -/
def Obligations.WrittenOutWordsDecode : Prop :=
  decode .header [0x55, 0x46, 0x32, 0x0A, 0x57, 0x51, 0x5D, 0x9E, 0x00, 0x20, 0x00, 0x00, 0x00, 0x01, 0x00, 0x00]
      = .ok (.wrHdrLive
          [0x55, 0x46, 0x32, 0x0A, 0x57, 0x51, 0x5D, 0x9E, 0x00, 0x20, 0x00, 0x00, 0x00, 0x01, 0x00, 0x00])
    ∧ decode .hidOut ([0x00, 0x01, 0x00, 0x00, 0x00, 0x34, 0x12] ++ zeros 57) = .ok (.hidBininfo 0x1234)
    ∧ decode .hidOut ([0x82, 0x30, 0x20] ++ zeros 61) = .ok (.hidTunnel 2 ([0x30, 0x20] ++ zeros 61))
    ∧ decode .rx [0x10] = .ok .rxAck
    ∧ decode .rx [0x14] = .ok (.rxOther 0x14)
    ∧ decode .blockRead [0x21, 0x00, 0x00, 0x00] = .ok (.rdFat 33)
    ∧ decode (.emitted .command) [0x55, 0xC0, 0x1F] = .ok (.loadAddress 0x1FC0)
    ∧ decode (.emitted .command) [0x64, 0x00, 0x80, 0x20] = .ok (.progPage 128 0x20)
    ∧ decode (.emitted .command) [0x20] = .ok .sync

/-! ### The step -/

/-- A step runs the decoded instruction: where the fetch presents the unit `u` in the state `t` and `u` decodes to `i`,
the step is `exec i t`, with nothing around it. The same with any configuration as the argument of the step relation
(R6, R41); at the default one that step is this hardware's. For a configuration that is not valid, where R295 leaves the
model undefined, the step is the model's choice (DESIGN CHOICE, log 22). -/
def Obligations.StepRunsDecodedUnit : Prop :=
  (∀ (s t : State) (u : Presented) (i : Instr),
    fetch Config.device s = .run u t → decode u.port u.bytes = .ok i → step s = exec i t)
  ∧ (∀ (cfg : Config) (s t : State) (u : Presented) (i : Instr),
    fetch cfg s = .run u t → decodeFor cfg u.port u.bytes = .ok i → stepFor cfg s = execFor cfg i t)
  ∧ ∀ s : State, stepFor Config.device s = step s

/-- What the fetch presents from the events: between tasks the first event's unit, with that event consumed; at any
position a received byte, a flush tick, a relay or drain moment, a watchdog event or a power-on reset that stands first
(R80, R267), and, where an entry gives the turn to the sequencer, the sequencer's own next operation. The list of events
is the model's (log 1). -/
def Obligations.FetchTakesOfferedEvents : Prop :=
  ∀ (s : State) (rest : List Event),
    (∀ (lba : BitVec 32) (d : List Byte), s.upc = .idle → s.events = .wr lba d :: rest →
      fetch Config.device s = .run ⟨.blockWrite, bytesLE32 lba ++ d⟩ { s with events := rest })
    ∧ (∀ lba : BitVec 32, s.upc = .idle → s.events = .rd lba :: rest →
      fetch Config.device s = .run ⟨.blockRead, bytesLE32 lba⟩ { s with events := rest })
    ∧ (∀ p : List Byte, s.upc = .idle → s.events = .hid p :: rest →
      fetch Config.device s = .run ⟨.hidOut, p⟩ { s with events := rest })
    ∧ (∀ b : Byte, s.events = .rx b :: rest → fetch Config.device s = .run ⟨.rx, [b]⟩ { s with events := rest })
    ∧ (s.events = .tick :: rest → fetch Config.device s = .run ⟨.flushTick, []⟩ { s with events := rest })
    ∧ (s.events = .relay :: rest → fetch Config.device s = .run ⟨.relay, []⟩ { s with events := rest })
    ∧ (s.events = .drain :: rest → fetch Config.device s = .run ⟨.drain, []⟩ { s with events := rest })
    ∧ (s.events = .wdt :: rest → fetch Config.device s = .run ⟨.wdt, []⟩ { s with events := rest })
    ∧ (s.events = .por :: rest → fetch Config.device s = .run ⟨.por, []⟩ { s with events := rest })
    ∧ (s.events = .seq :: rest → fetch Config.device s = sequencerTurn Config.device { s with events := rest })

/-- R131: in BLK the sequencer's turn takes chunk `ci` of the block in flight, bytes `16 * ci` to `16 * ci + 15`, and is
selected by `ci` alone; at `ci = 32` it is the end of the block. That turn is what the fetch presents at an entry that
gives the turn to the sequencer, whatever comes after it, and with no entry left (log 1). -/
def Obligations.SequencerTakesChunkByIndex : Prop :=
  (∀ (s : State) (d : List Byte), s.upc = .blk → s.blkData = some d →
    (s.ci.toNat = 0 → sequencerTurn Config.device s = .run ⟨.header, (d.drop 0).take 16⟩ s)
    ∧ (s.ci.toNat = 1 → sequencerTurn Config.device s = .run ⟨.metadata, (d.drop 16).take 16⟩ s)
    ∧ (2 ≤ s.ci.toNat → s.ci.toNat ≤ 31 → ∃ f : PayloadForm,
        sequencerTurn Config.device s = .run ⟨.payload f, (d.drop (16 * s.ci.toNat)).take 16⟩ s
          ∧ s.payloadDue Config.device f = true)
    ∧ (s.ci.toNat = 32 → sequencerTurn Config.device s = .run ⟨.blockEnd, []⟩ s))
  ∧ (∀ (s : State) (rest : List Event), s.events = .seq :: rest →
    fetch Config.device s = sequencerTurn Config.device { s with events := rest })
  ∧ ∀ s : State, s.events = [] → fetch Config.device s = sequencerTurn Config.device s

/-- R23: while a block is in flight no read, packet or further block is taken, whatever else stands in the event list:
what the fetch presents is none of them, and the ones that wait stay offered, in order, whether the fetch presents a unit
or polls. Where nothing but host transactions is offered, the sequencer goes on with its own work. The list of events is
the model's (log 1). -/
def Obligations.HostTransactionsWaitDuringBlock : Prop :=
  ∀ (s : State), s.upc ≠ .idle →
    (∀ (u : Presented) (t : State), fetch Config.device s = .run u t →
      u.port ≠ .blockWrite ∧ u.port ≠ .blockRead ∧ u.port ≠ .hidOut
        ∧ t.events.filter Event.waits = s.events.filter Event.waits)
    ∧ (∀ t : State, fetch Config.device s = .poll t →
      t.events.filter Event.waits = s.events.filter Event.waits)
    ∧ ((∀ e ∈ s.events, e.waits = true) → fetch Config.device s = sequencerTurn Config.device s)

/-! ### The write path -/

/-- R130: in IDLE WR_BEGIN latches the block, whatever the block number, and changes nothing else; while a block is in
flight a new one does not begin: it stays offered, and the sequencer goes on with its own work. -/
def Obligations.WrBeginLatchesBlock : Prop :=
  ∀ (s : State) (lba : BitVec 32) (d : List Byte),
    (s.upc = .idle → exec (.wrBegin lba d) s = .next { s with blkData := some d, ci := 0, upc := .blk })
    ∧ (s.upc ≠ .idle → s.events = [.wr lba d] → fetch Config.device s = sequencerTurn Config.device s)

/-- R132: chunk 0 with the magic and a clear skip flag is a live header, which loads half the byte address and clears
`inert`; with the flag set or another magic it sets `inert` and leaves `wordAddr` as it was. Either way `ci` becomes 1
and nothing is transmitted. -/
def Obligations.HeaderChunkSetsInertAndAddress : Prop :=
  ∀ (s : State) (c : List Byte), s.upc = .blk → s.ci = 0 → c.length = 16 →
    let magic := c.take 8 = [0x55#8, 0x46#8, 0x32#8, 0x0A#8, 0x57#8, 0x51#8, 0x5D#8, 0x9E#8]
    (magic → (byteAt c 8).getLsbD 0 = false → decode .header c = .ok (.wrHdrLive c))
      ∧ exec (.wrHdrLive c) s
        = .next { s with chunkBuf := c, inert := false, wordAddr := (byteAt c 13 ++ byteAt c 12) >>> 1, ci := 1 }
      ∧ (magic → (byteAt c 8).getLsbD 0 = true → decode .header c = .ok (.wrHdrSkip c))
      ∧ exec (.wrHdrSkip c) s = .next { s with chunkBuf := c, inert := true, ci := 1 }
      ∧ (¬ magic → decode .header c = .ok (.wrHdrNomagic c))
      ∧ exec (.wrHdrNomagic c) s = .next { s with chunkBuf := c, inert := true, ci := 1 }

/-- R133 to R136: a live metadata chunk sets the page count, updates the expected count and records its index; for an
inert block only `ci` changes (and the chunk buffer, R131). -/
def Obligations.MetadataChunkUpdatesTransferState : Prop :=
  ∀ (s : State) (c : List Byte), s.upc = .blk → s.ci = 1 →
    let n := le32 c 8
    let i := le32 c 4
    (s.inert = false → exec (.wrMeta c) s = .next { s with
      chunkBuf := c
      pagesPending := (le32 c 0 >>> 7).setWidth 25
      expCount := if n ≠ s.expCount then (if s.expCount ≠ 0x00000000 then 0xFFFFFFFF else n) else s.expCount
      bitmap := if i.toNat < 256 ∧ s.bitmap.getLsbD i.toNat = false then s.bitmap ||| (1#256 <<< i.toNat) else s.bitmap
      writtenCount := if i.toNat < 256 ∧ s.bitmap.getLsbD i.toNat = false then s.writtenCount + 1 else s.writtenCount
      ci := 2 })
    ∧ (s.inert = true → exec (.wrMeta c) s = .next { s with chunkBuf := c, ci := 2 })

/-- R137: a payload chunk of an inert block, or with no page pending, is fetched and discarded. -/
def Obligations.SkippedPayloadOnlyAdvances : Prop :=
  ∀ (s : State) (c : List Byte), s.upc = .blk → 2 ≤ s.ci.toNat → s.ci.toNat ≤ 31 →
    (s.inert = true ∨ s.pagesPending = 0) →
    exec (.wrPayloadSkip c) s = .next { s with chunkBuf := c, ci := s.ci + 1 }

/-- R141, R191, R192, R200: the chunk that opens a page resets the target if it is the first since the device's reset,
sends the load-address command with the current word address and starts the handshake; `ci` is not advanced and the
chunk stays in `chunkBuf`. -/
def Obligations.OpeningChunkSendsLoadAddress : Prop :=
  ∀ (s : State) (c : List Byte), s.upc = .blk → 2 ≤ s.ci.toNat → s.ci.toNat ≤ 31 →
    s.inert = false → s.pagesPending ≠ 0 → (s.ci.toNat - 2) % 8 = 0 →
    exec (.wrPayloadOpen c) s = .next { s with
      chunkBuf := c
      started := true
      resetLine := if s.started then s.resetLine else .released
      serOut := s.serOut ++ startTraffic s.started
        ++ [.tx 0x55, .tx (s.wordAddr.extractLsb' 0 8), .tx (s.wordAddr.extractLsb' 8 8), .tx 0x20]
      ackCount := 0
      wdt := if s.wdt = .off then .hs else s.wdt
      upc := .waitLa }

/-- R142: a chunk inside a page is sent verbatim and `ci` advances. -/
def Obligations.MiddleChunkIsSentVerbatim : Prop :=
  ∀ (s : State) (c : List Byte), s.upc = .blk → 2 ≤ s.ci.toNat → s.ci.toNat ≤ 31 →
    s.inert = false → s.pagesPending ≠ 0 → 0 < (s.ci.toNat - 2) % 8 → (s.ci.toNat - 2) % 8 < 7 →
    exec (.wrPayloadMid c) s
      = .next { s with chunkBuf := c, serOut := s.serOut ++ c.map SerEvent.tx, ci := s.ci + 1 }

/-- R143: the chunk that completes a page is sent verbatim and the page-commit handshake starts; `ci` is not
advanced. -/
def Obligations.LastChunkStartsCommitHandshake : Prop :=
  ∀ (s : State) (c : List Byte), s.upc = .blk → 2 ≤ s.ci.toNat → s.ci.toNat ≤ 31 →
    s.inert = false → s.pagesPending ≠ 0 → (s.ci.toNat - 2) % 8 = 7 →
    exec (.wrPayloadLast c) s = .next { s with
      chunkBuf := c
      serOut := s.serOut ++ c.map SerEvent.tx ++ [.tx 0x20]
      ackCount := 0
      wdt := if s.wdt = .off then .hs else s.wdt
      upc := .waitPg }

/-- R139, R140: at the end of a live block whose concrete expected count is reached, the count is zeroed, the target is
restarted and the watchdog is set to DONE; at the end of any other block nothing further happens. Either way the block
is released and the sequencer is IDLE. -/
def Obligations.EndOfBlockCompletesWhenReached : Prop :=
  ∀ (s : State), s.upc = .blk → s.ci = 32 →
    exec .wrEnd s = .next
      (if s.inert = false ∧ s.expCount ≠ 0x00000000 ∧ s.expCount ≠ 0xFFFFFFFF
          ∧ s.expCount.toNat ≤ s.writtenCount.toNat then
        { s with
          writtenCount := 0
          serOut := s.serOut ++ [.resetFinish]
          resetLine := .released
          wdt := .done
          blkData := none
          upc := .idle }
      else { s with blkData := none, upc := .idle })

/-- R193: after the load-address acknowledgment the watchdog is disarmed if the handshake armed it, the program-page
header and the held chunk are sent, and the sequencer goes on; `ackCount` is not cleared here. -/
def Obligations.LoadAddressAcknowledgedSendsProgramPage : Prop :=
  ∀ (s : State), s.upc = .waitLa → s.ackCount ≠ 0 →
    exec .hsDoneLa s = .next { s with
      wdt := if s.wdt = .hs then .off else s.wdt
      serOut := s.serOut ++ [.tx 0x64, .tx 0x00, .tx 0x80, .tx 0x20] ++ s.chunkBuf.map SerEvent.tx
      ci := s.ci + 1
      upc := .blk }

/-- R195: after the page-commit acknowledgment one page less is pending and the word address is 64 further. -/
def Obligations.PageCommittedAdvancesAddress : Prop :=
  ∀ (s : State), s.upc = .waitPg → s.ackCount ≠ 0 →
    exec .hsDonePg s = .next { s with
      wdt := if s.wdt = .hs then .off else s.wdt
      pagesPending := s.pagesPending - 1
      wordAddr := s.wordAddr + 64
      ci := s.ci + 1
      upc := .blk }

/-! ### The read path -/

/-- R161: in IDLE each read operation answers `ReadBlock` of its block number and changes no state of the device. -/
def Obligations.ReadsAnswerReadBlock : Prop :=
  ∀ (s : State) (lba : BitVec 32), s.upc = .idle →
    exec .rdBoot s = .next { s with mscReply := some (readBlock Config.device 0) }
    ∧ (1 ≤ lba.toNat → lba.toNat < 65 →
        exec (.rdFat lba) s = .next { s with mscReply := some (readBlock Config.device lba) })
    ∧ (65 ≤ lba.toNat → lba.toNat < 69 →
        exec (.rdRoot lba) s = .next { s with mscReply := some (readBlock Config.device lba) })
    ∧ (69 ≤ lba.toNat → lba.toNat < 71 →
        exec (.rdData lba) s = .next { s with mscReply := some (readBlock Config.device lba) })
    ∧ (71 ≤ lba.toNat →
        exec (.rdZero lba) s = .next { s with mscReply := some (readBlock Config.device lba) })

/-- R162: for every valid configuration block 0 has 512 bytes, ends with 0x55, 0xAA and has the sector size 512 at bytes
11 and 12; with the default one it is the bytes R162 lists. -/
def Obligations.BootSectorForEveryConfiguration : Prop :=
  (∀ cfg : Config, cfg.valid = true →
    (readBlock cfg 0).length = 512 ∧ (readBlock cfg 0).drop 510 = [0x55#8, 0xAA#8]
      ∧ ((readBlock cfg 0).drop 11).take 2 = [0x00#8, 0x02#8])
    ∧ readBlock Config.device 0
      = [0xEB, 0x3C, 0x90, 0x55, 0x46, 0x32, 0x20, 0x55, 0x46, 0x32, 0x20, 0x00, 0x02, 0x01, 0x01, 0x00,
          0x02, 0x40, 0x00, 0x40, 0x1F, 0xF8, 0x20, 0x00, 0x01, 0x00, 0x01, 0x00, 0x00, 0x00, 0x00, 0x00,
          0x00, 0x00, 0x00, 0x00, 0x00, 0x00, 0x29, 0x42, 0x00, 0x42, 0x00, 0x55, 0x46, 0x32, 0x2D, 0x55,
          0x4E, 0x4F, 0x20, 0x20, 0x20, 0x20, 0x46, 0x41, 0x54, 0x31, 0x36, 0x20, 0x20, 0x20]
        ++ zeros 448 ++ [0x55, 0xAA]

/-- R160: for every valid configuration and every 32-bit block number, the answer has 512 bytes. Where the rules of the
regions define no bytes (a reserved block after block 0, a file after the two of R167) the bytes are free values and this
holds for all of them; that they are one block is the model's choice of the free values (logs 17 and 18), as R160 asks. -/
def Obligations.EveryReadHasOneBlock : Prop :=
  ∀ (cfg : Config) (lba : BitVec 32), cfg.valid = true → (readBlock cfg lba).length = 512

/-- R163: the two FAT copies are byte-identical; the first sector of each is `F8` and seven `FF`, then zeros, and every
other one is zero. -/
def Obligations.FatCopiesAreIdentical : Prop :=
  ∀ lba : BitVec 32, 1 ≤ lba.toNat → lba.toNat ≤ 32 →
    readBlock Config.device (lba + 32) = readBlock Config.device lba
      ∧ (lba = 1 → readBlock Config.device lba
          = [0xF8#8, 0xFF#8, 0xFF#8, 0xFF#8, 0xFF#8, 0xFF#8, 0xFF#8, 0xFF#8] ++ zeros 504)
      ∧ (lba ≠ 1 → readBlock Config.device lba = zeros 512)

/-- R164: the root directory's first sector is the volume label's entry and one entry per file with its start cluster
`2 + i` and its exact size (56 and 117), then zeros; the other three sectors are zero. -/
def Obligations.RootDirectoryListsLabelAndFiles : Prop :=
  readBlock Config.device 65
      = [0x55, 0x46, 0x32, 0x2D, 0x55, 0x4E, 0x4F, 0x20, 0x20, 0x20, 0x20, 0x28] ++ zeros 20
        ++ [0x49, 0x4E, 0x46, 0x4F, 0x5F, 0x55, 0x46, 0x32, 0x54, 0x58, 0x54, 0x00] ++ zeros 14
        ++ [0x02, 0x00, 0x38, 0x00, 0x00, 0x00]
        ++ [0x49, 0x4E, 0x44, 0x45, 0x58, 0x20, 0x20, 0x20, 0x48, 0x54, 0x4D, 0x00] ++ zeros 14
        ++ [0x03, 0x00, 0x75, 0x00, 0x00, 0x00] ++ zeros 416
    ∧ readBlock Config.device 66 = zeros 512 ∧ readBlock Config.device 67 = zeros 512
    ∧ readBlock Config.device 68 = zeros 512

/-- R165, R166, R168: the two file sectors are the files' bytes, zero padded, both written out (V35, V36: the 56 bytes of
the identity string, the 117 bytes of the redirect page); every block from 71 up, without upper limit, is zero. -/
def Obligations.DataRegionHoldsFilesThenZeros : Prop :=
  readBlock Config.device 69
      = [0x55, 0x46, 0x32, 0x20, 0x42, 0x6F, 0x6F, 0x74, 0x6C, 0x6F, 0x61, 0x64, 0x65, 0x72, 0x20, 0x76, 0x31, 0x2E,
          0x30, 0x0D, 0x0A, 0x4D, 0x6F, 0x64, 0x65, 0x6C, 0x3A, 0x20, 0x41, 0x72, 0x64, 0x75, 0x69, 0x6E, 0x6F, 0x20,
          0x55, 0x4E, 0x4F, 0x0D, 0x0A, 0x42, 0x6F, 0x61, 0x72, 0x64, 0x2D, 0x49, 0x44, 0x3A, 0x20, 0x55, 0x4E, 0x4F,
          0x0D, 0x0A] ++ zeros 456
    ∧ readBlock Config.device 70
      = [0x3C, 0x21, 0x64, 0x6F, 0x63, 0x74, 0x79, 0x70, 0x65, 0x20, 0x68, 0x74, 0x6D, 0x6C, 0x3E, 0x0A, 0x3C, 0x68,
          0x74, 0x6D, 0x6C, 0x3E, 0x3C, 0x62, 0x6F, 0x64, 0x79, 0x3E, 0x3C, 0x73, 0x63, 0x72, 0x69, 0x70, 0x74, 0x3E,
          0x0A, 0x6C, 0x6F, 0x63, 0x61, 0x74, 0x69, 0x6F, 0x6E, 0x2E, 0x72, 0x65, 0x70, 0x6C, 0x61, 0x63, 0x65, 0x28,
          0x22, 0x68, 0x74, 0x74, 0x70, 0x73, 0x3A, 0x2F, 0x2F, 0x67, 0x69, 0x74, 0x68, 0x75, 0x62, 0x2E, 0x63, 0x6F,
          0x6D, 0x2F, 0x6D, 0x6D, 0x6F, 0x73, 0x6B, 0x61, 0x6C, 0x2F, 0x75, 0x66, 0x32, 0x2D, 0x75, 0x6E, 0x6F, 0x22,
          0x29, 0x3B, 0x0A, 0x3C, 0x2F, 0x73, 0x63, 0x72, 0x69, 0x70, 0x74, 0x3E, 0x3C, 0x2F, 0x62, 0x6F, 0x64, 0x79,
          0x3E, 0x3C, 0x2F, 0x68, 0x74, 0x6D, 0x6C, 0x3E, 0x0A] ++ zeros 395
    ∧ ∀ lba : BitVec 32, 71 ≤ lba.toNat → readBlock Config.device lba = zeros 512

/-! ### HID -/

/-- R231: a tunnel packet with count `k` of at most 63 appends exactly its `k` bytes to `h2t`, in packet order, where the
ring has room; with less room the first bytes that fit are appended and the rest dropped. No reply is sent and nothing
is transmitted. -/
def Obligations.TunnelAppendsItsBytes : Prop :=
  ∀ (s : State) (k : BitVec 7) (body : List Byte),
    s.upc = .idle → body.length = 63 → k.toNat ≤ 63 → s.h2t.length ≤ 128 →
    (s.h2t.length + k.toNat ≤ 128 →
      exec (.hidTunnel k body) s = .next { s with h2t := s.h2t ++ body.take k.toNat })
    ∧ (128 < s.h2t.length + k.toNat →
      exec (.hidTunnel k body) s = .next { s with h2t := s.h2t ++ body.take (128 - s.h2t.length) })

/-- Log 8 (the model's choice, which U3 allows): a count above 63, whose result R231 leaves unspecified, takes the 63 bytes
that the packet has; those that do not fit the ring are dropped. -/
def Obligations.TunnelCountAboveThePacketTakesIt : Prop :=
  ∀ (s : State) (k : BitVec 7) (body : List Byte),
    s.upc = .idle → body.length = 63 → 63 < k.toNat → s.h2t.length ≤ 128 →
    exec (.hidTunnel k body) s = .next { s with h2t := s.h2t ++ body.take (128 - s.h2t.length) }

/-- R110 to R112, R236 to R238: the three replies, byte by byte; nothing but the packet buffer and `hidOut` changes. -/
def Obligations.CommandReplyBytes : Prop :=
  ∀ (s : State) (cmd : BitVec 32) (tag : BitVec 16), s.upc = .idle →
    let lo := tag.extractLsb' 0 8
    let hi := tag.extractLsb' 8 8
    let b := [0x94#8, lo, hi, 0x00#8, 0x00#8, 0x01#8, 0x00#8, 0x00#8, 0x00#8, 0x80#8, 0x00#8, 0x00#8, 0x00#8,
      0x00#8, 0x01#8, 0x00#8, 0x00#8, 0x3F#8, 0x00#8, 0x00#8, 0x00#8] ++ zeros 43
    let q := [0xBC#8, lo, hi, 0x00#8, 0x00#8] ++ Config.device.ident ++ zeros 3
    let u := [0x84#8, lo, hi, 0x01#8, 0x00#8] ++ zeros 59
    exec (.hidBininfo tag) s = .next { s with txBuf := b, hidOut := s.hidOut ++ [b] }
      ∧ exec (.hidInfo tag) s = .next { s with txBuf := q, hidOut := s.hidOut ++ [q] }
      ∧ (cmd ≠ 1 → cmd ≠ 2 → exec (.hidUnknown cmd tag) s = .next { s with txBuf := u, hidOut := s.hidOut ++ [u] })

/-- R235: a packet with bit 7 of its first byte clear adds exactly one packet to `hidOut` and changes nothing but the
packet buffer; one with the bit set adds none. For a count of 64 to 127 R231 leaves the result unspecified and would have
a model refuse it: that such a packet, too, has a next state with nothing but `h2t` changed is the model's choice
(DESIGN CHOICE, log 8). -/
def Obligations.EveryCommandSendsOnePacket : Prop :=
  ∀ (s : State) (p : List Byte) (i : Instr), s.upc = .idle → p.length = 64 → decode .hidOut p = .ok i →
    ((byteAt p 0).getLsbD 7 = false →
      ∃ q : List Byte, q.length = 64 ∧ exec i s = .next { s with txBuf := q, hidOut := s.hidOut ++ [q] })
    ∧ ((byteAt p 0).getLsbD 7 = true →
      ∃ r : List Byte, exec i s = .next { s with h2t := r })

/-- R239: FLUSH_TICK sets the flag in IDLE. -/
def Obligations.FlushTickSetsFlag : Prop :=
  ∀ (s : State), s.upc = .idle → exec .flushTick s = .next { s with flushPending := true }

/-- R240: RELAY sends up to 63 bytes of `t2h` in order in one zero-padded packet whose first byte is 0x80 and the count,
removes them, and keeps the flag exactly where bytes remain. -/
def Obligations.RelaySendsOnePacket : Prop :=
  ∀ (s : State), s.upc = .idle → s.flushPending = true → s.t2h ≠ [] →
    let n := min 63 s.t2h.length
    let q := (0x80#8 ||| BitVec.ofNat 8 n) :: (s.t2h.take n ++ zeros (63 - n))
    exec .relay s = .next { s with
      txBuf := q
      hidOut := s.hidOut ++ [q]
      t2h := s.t2h.drop n
      flushPending := decide (63 < s.t2h.length) }

/-! ### Serial -/

/-- R207: DRAIN sends the byte at the head of `h2t`, unchanged, and removes it. -/
def Obligations.DrainSendsTheHead : Prop :=
  ∀ (s : State) (b : Byte) (rest : List Byte), s.upc = .idle → s.h2t = b :: rest →
    exec .drain s = .next { s with h2t := rest, serOut := s.serOut ++ [.tx b] }

/-- R205: the acknowledgment byte is counted modulo 256 in every state and queued unless the ring is full; nothing else
changes. -/
def Obligations.AcknowledgmentIsCountedAndQueued : Prop :=
  ∀ (s : State), exec .rxAck s = .next { s with
    ackCount := s.ackCount + 1
    t2h := if s.t2h.length < 128 then s.t2h ++ [0x10] else s.t2h }

/-- R206: any other byte is queued unless the ring is full; the counter is unchanged. -/
def Obligations.OtherByteIsQueued : Prop :=
  ∀ (s : State) (b : Byte), b ≠ 0x10 →
    exec (.rxOther b) s = .next { s with t2h := if s.t2h.length < 128 then s.t2h ++ [b] else s.t2h }

/-! ### Watchdog, power-on, emitted units -/

/-- R263, R264, R290: the watchdog's expiry is a reboot whose cause is the arming, and POR is a reboot, in every state. -/
def Obligations.ResetCausesReboot : Prop :=
  ∀ (s : State),
    (s.wdt = .hs → exec .wdtExpire s = .next (s.reboot .hsTimeout))
    ∧ (s.wdt = .done → exec .wdtExpire s = .next (s.reboot .done))
    ∧ exec .por s = .next (s.reboot .por)

/-- R99 to R102, R200 (log 5): what each serial unit puts on `serOut`; SYNC also clears the counter and bounds the
wait. -/
def Obligations.EmittedSerialUnitBytes : Prop :=
  ∀ (s : State) (a size : BitVec 16) (term : Byte) (c : List Byte),
    exec (.loadAddress a) s = .next { s with
        serOut := s.serOut ++ [.tx 0x55, .tx (a.extractLsb' 0 8), .tx (a.extractLsb' 8 8)] }
    ∧ exec (.progPage size term) s = .next { s with
        serOut := s.serOut ++ [.tx 0x64, .tx (size.extractLsb' 8 8), .tx (size.extractLsb' 0 8), .tx term] }
    ∧ exec (.data c) s = .next { s with serOut := s.serOut ++ c.map SerEvent.tx }
    ∧ exec .sync s = .next { s with
        ackCount := 0
        wdt := if s.wdt = .off then .hs else s.wdt
        serOut := s.serOut ++ [.tx 0x20] }

/-- R191, R196, R262 (log 5): the reset-line events and the reboot. -/
def Obligations.EmittedResetEvents : Prop :=
  ∀ (s : State) (cause : Cause),
    exec .resetStart s
        = .next { s with serOut := s.serOut ++ [.resetStart], started := true, resetLine := .released }
    ∧ exec .resetFinish s = .next { s with serOut := s.serOut ++ [.resetFinish], resetLine := .released }
    ∧ exec (.reboot cause) s = .next (s.reboot cause)

/-- R108, R109, R233, R234, C6: a reply and a relay packet with the same bytes are the same packet: 0x80 and the count,
the bytes, zero padding to 64. -/
def Obligations.OutboundPacketBytes : Prop :=
  ∀ (s : State) (body : List Byte), body.length ≤ 63 →
    let q := (0x80#8 ||| BitVec.ofNat 8 body.length) :: (body ++ zeros (63 - body.length))
    exec (.reply body) s = .next { s with txBuf := q, hidOut := s.hidOut ++ [q] }
      ∧ exec (.relayPacket body) s = .next { s with txBuf := q, hidOut := s.hidOut ++ [q] }

/-! ### All operations -/

/-- Log 2 (the model's choice): an operation that is not enabled changes nothing. -/
def Obligations.DisabledOperationsChangeNothing : Prop :=
  ∀ (i : Instr) (s : State), enabled i s = false → exec i s = .next s

/-- R247: every enabled operation moves the sequencer's position as the table says. -/
def Obligations.PositionMovesAsTabled : Prop :=
  ∀ (i : Instr) (s t : State), enabled i s = true → exec i s = .next t →
    t.upc = (positionAfter i s).1 ∧ ∀ c, (positionAfter i s).2 = some c → t.ci = c

/-- R247: within BLK exactly one operation applies at every position. -/
def Obligations.OneOperationAppliesInBlock : Prop :=
  ∀ (s : State), s.upc = .blk → s.ci.toNat ≤ 32 →
    ([s.atHeader, s.atMetadata, s.payloadDue Config.device .skip, s.payloadDue Config.device .first,
      s.payloadDue Config.device .mid, s.payloadDue Config.device .last, s.atEnd Config.device].count true) = 1

/-- R46: the traces only grow, in every step. -/
def Obligations.TracesOnlyGrow : Prop :=
  ∀ (s t : State), step s = .next t →
    s.serOut <+: t.serOut ∧ s.hidOut <+: t.hidOut ∧ s.sysOut <+: t.sysOut

/-- R25, R135 (d): once `expCount` is INDET it stays so in every step that is not a reboot. -/
def Obligations.IndeterminateStaysUntilReboot : Prop :=
  ∀ (s t : State), step s = .next t → s.expCount = 0xFFFFFFFF → t.sysOut = s.sysOut → t.expCount = 0xFFFFFFFF

/-- R26: no step that is not a reboot clears a bit of `bitmap`. -/
def Obligations.BitmapBitsStayUntilReboot : Prop :=
  ∀ (s t : State) (i : Nat), step s = .next t → s.bitmap.getLsbD i = true → t.sysOut = s.sysOut →
    t.bitmap.getLsbD i = true

/-- S2, R136: recording an index a second time changes neither the bitmap nor the count, whatever the capacity
`BITMAP_CAP` (R6) that the bitmap holds. -/
def Obligations.RecordingAnIndexTwiceCountsOnce : Prop :=
  ∀ (cfg : Config) (bitmap : BitVec 256) (count : BitVec 9) (i : BitVec 32), cfg.bitmapCap ≤ 256 →
    recordIndex cfg (recordIndex cfg bitmap i) i = recordIndex cfg bitmap i
      ∧ countIndex cfg (recordIndex cfg bitmap i) (countIndex cfg bitmap count i) i = countIndex cfg bitmap count i

/-- R82, R201: in a wait with no acknowledgment counted, a step on events of the spec transmits nothing and sends no
packet. -/
def Obligations.NothingIsSentWhileWaiting : Prop :=
  ∀ (s t : State), s.waiting → s.ackCount = 0 → (∀ e ∈ s.events, e.offered = true) → step s = .next t →
    t.serOut = s.serOut ∧ t.hidOut = s.hidOut

/-- R71, R85: while a block is in flight a step on events of the spec neither drains nor fills `h2t` and sends no packet,
unless it reboots. -/
def Obligations.TunnelRestsDuringBlock : Prop :=
  ∀ (s t : State), s.Inv → s.upc ≠ .idle → step s = .next t → t.sysOut = s.sysOut →
    t.h2t = s.h2t ∧ t.hidOut = s.hidOut

/-! ### Invariants -/

/-- The reset state meets the invariants of the state, the counts and the word address. -/
def Obligations.ResetMeetsTheInvariants : Prop :=
  State.reset.Inv ∧ State.reset.CountInv ∧ State.reset.AddressBound

/-- Every step keeps the invariant of the state: buffer lengths, ring capacities, the range of `ci`, the latch, the
watchdog armed exactly around a wait, the wait states inside a live page, the reset line. -/
def Obligations.StepKeepsStateInvariant : Prop :=
  ∀ (s t : State), s.Inv → step s = .next t → t.Inv

/-- R28: every step, on any events, keeps `writtenCount` at most the number of recorded indices, with equality until the
first completion since reset. -/
def Obligations.StepKeepsCountInvariant : Prop :=
  ∀ (s t : State), s.CountInv → step s = .next t → t.CountInv

/-- R62: every step keeps the word address within its bound: never above 0x80BF, and in a live block past its header at
most 0x7FFF and 64 words for each page position that `ci` has passed. -/
def Obligations.StepKeepsAddressBound : Prop :=
  ∀ (s t : State), s.Inv → s.AddressBound → step s = .next t → t.AddressBound

/-- R251: on events of the spec every operation is total: from every state that meets the invariant, a step answers a
next state, never a fault or a refusal. R251 and R119 except a tunnel packet with a count above 63: that a step answers
there too is the model's choice (DESIGN CHOICE, log 8), and so is that an entry whose operation is not enabled is passed
over with the state unchanged (DESIGN CHOICE, log 2), of which R251 says nothing. -/
def Obligations.StepsNeverStopOnSpecEvents : Prop :=
  ∀ (s : State), s.Inv → ∃ t, step s = .next t

/-! ### Whole transactions -/

/-- R144: the write of a block that is not UF2_LIVE, whole: from every state in IDLE with only this block offered, the
34 operations change nothing but the scratch registers (`ci`, `inert`, `chunkBuf`; the block latch is empty). -/
def Obligations.InertBlockChangesNothing : Prop :=
  ∀ (s : State) (lba : BitVec 32) (d : List Byte), s.upc = .idle → d.length = 512 →
    ¬ (d.take 8 = [0x55#8, 0x46#8, 0x32#8, 0x0A#8, 0x57#8, 0x51#8, 0x5D#8, 0x9E#8]
        ∧ (byteAt d 8).getLsbD 0 = false) →
    steps 34 { s with events := [.wr lba d] }
      = .next { s with
          events := []
          ci := 32
          inert := true
          chunkBuf := (d.drop 496).take 16
          blkData := none }

/-- R190: one page, end to end, with a target that acknowledges both handshakes: from any state of a live block at the
chunk that begins a page, with a page pending, the twelve turns put exactly the page's traffic on `serOut` (137 bytes,
after RESET(START) if the target was not reset yet), count the page, advance the address by 64 words and end at the next
page's first chunk; the transfer state is untouched and the watchdog is armed as it was. -/
def Obligations.OnePageEndToEnd : Prop :=
  ∀ (s : State) (d : List Byte) (rest : List Event),
    s.upc = .blk → s.blkData = some d → d.length = 512 → 2 ≤ s.ci.toNat → s.ci.toNat ≤ 18 →
    (s.ci.toNat - 2) % 8 = 0 → s.inert = false → s.pagesPending ≠ 0 → s.wdt ≠ .hs → s.events = pageTurns ++ rest →
    ∃ t, steps 12 s = .next t
      ∧ t.serOut = s.serOut ++ startTraffic s.started
          ++ pageTraffic s.wordAddr ((d.drop (16 * s.ci.toNat)).take 128)
      ∧ t.pagesPending = s.pagesPending - 1 ∧ t.wordAddr = s.wordAddr + 64 ∧ t.ci.toNat = s.ci.toNat + 8
      ∧ t.upc = .blk ∧ t.started = true ∧ t.wdt = s.wdt ∧ t.inert = false ∧ t.blkData = some d
      ∧ t.expCount = s.expCount ∧ t.bitmap = s.bitmap ∧ t.writtenCount = s.writtenCount
      ∧ t.h2t = s.h2t ∧ t.hidOut = s.hidOut ∧ t.sysOut = s.sysOut ∧ t.events = rest

/-- R145, R190, S6: the write of a live block that declares exactly one page (128 to 255 bytes), whole, with a target
that acknowledges both handshakes: from every state in IDLE with no handshake bound armed, the 38 operations put on
`serOut` RESET(START) if the target was not reset yet, the page's traffic, and RESET(FINISH) exactly where the block
completes the transfer. The transfer state is as R135, R136 and R139 give it. -/
def Obligations.OnePageBlockEndToEnd : Prop :=
  ∀ (s : State) (lba : BitVec 32) (d : List Byte),
    s.upc = .idle → s.wdt ≠ .hs → d.length = 512 →
    d.take 8 = [0x55#8, 0x46#8, 0x32#8, 0x0A#8, 0x57#8, 0x51#8, 0x5D#8, 0x9E#8] → (byteAt d 8).getLsbD 0 = false →
    128 ≤ (le32 d 16).toNat → (le32 d 16).toNat < 256 →
    let w := le16 d 12 >>> 1
    let e := nextExpCount Config.device s.expCount (le32 d 24)
    let n := countIndex Config.device s.bitmap s.writtenCount (le32 d 20)
    let fin := e ≠ 0x00000000 ∧ e ≠ 0xFFFFFFFF ∧ e.toNat ≤ n.toNat
    ∃ t, steps 38 { s with events := .wr lba d :: .seq :: .seq :: pageTurns } = .next t
      ∧ t.serOut = s.serOut ++ startTraffic s.started ++ pageTraffic w ((d.drop 32).take 128)
          ++ (if fin then [SerEvent.resetFinish] else [])
      ∧ t.expCount = e ∧ t.bitmap = recordIndex Config.device s.bitmap (le32 d 20)
      ∧ t.writtenCount = (if fin then 0 else n) ∧ t.wdt = (if fin then .done else s.wdt)
      ∧ t.wordAddr = w + 64 ∧ t.pagesPending = 0 ∧ t.started = true ∧ t.upc = .idle ∧ t.blkData = none
      ∧ t.h2t = s.h2t ∧ t.hidOut = s.hidOut ∧ t.sysOut = s.sysOut
end

