-- ==== Sys2Proof/Laws/Config.lean ====
section
/-! SUPPORT. The default configuration's parameters and derived quantities as numbers (`00_scope.md` R6). -/

namespace Sys2Proof

namespace Config

@[simp] theorem device_blk : device.blk = 512 := rfl

@[simp] theorem device_magicLen : device.magicLen = 8 := rfl

@[simp] theorem device_secPerClus : device.secPerClus = 1 := rfl

@[simp] theorem device_fatCopies : device.fatCopies = 2 := rfl

@[simp] theorem device_numInfo : device.numInfo = 2 := rfl

@[simp] theorem device_addrW : device.addrW = 16 := rfl

@[simp] theorem device_metaW : device.metaW = 32 := rfl

@[simp] theorem device_bitmapCap : device.bitmapCap = 256 := rfl

@[simp] theorem device_ackW : device.ackW = 8 := rfl

@[simp] theorem device_hidCntMask : device.hidCntMask = 0x7F#8 := rfl

@[simp] theorem device_hidFlag : device.hidFlag = 0x80#8 := rfl

@[simp] theorem device_chunk : device.chunk = 16 := rfl

@[simp] theorem device_fpc : device.fpc = 2 := rfl

@[simp] theorem device_page : device.page = 128 := rfl

@[simp] theorem device_pkt : device.pkt = 64 := rfl

@[simp] theorem device_h2tCap : device.h2tCap = 128 := rfl

@[simp] theorem device_t2hCap : device.t2hCap = 128 := rfl

@[simp] theorem device_offSize : device.offSize = 0 := rfl

@[simp] theorem device_offIndex : device.offIndex = 4 := rfl

@[simp] theorem device_offCount : device.offCount = 8 := rfl

@[simp] theorem device_unset : device.unset = 0#32 := rfl

@[simp] theorem device_indet : device.indet = 0xFFFFFFFF#32 := rfl

@[simp] theorem device_cmdLoadAddress : device.cmdLoadAddress = 0x55#8 := rfl

@[simp] theorem device_cmdProgPage : device.cmdProgPage = 0x64#8 := rfl

@[simp] theorem device_syncEop : device.syncEop = 0x20#8 := rfl

@[simp] theorem device_ppTerm : device.ppTerm = 0x20#8 := rfl

@[simp] theorem device_ackByte : device.ackByte = 0x10#8 := rfl

@[simp] theorem device_cmdBininfo : device.cmdBininfo = 1#32 := rfl

@[simp] theorem device_cmdInfo : device.cmdInfo = 2#32 := rfl

@[simp] theorem device_stOk : device.stOk = 0#8 := rfl

@[simp] theorem device_stInvalid : device.stInvalid = 1#8 := rfl

@[simp] theorem device_nchunk : device.nchunk = 32 := by decide

@[simp] theorem device_cpp : device.cpp = 8 := by decide

@[simp] theorem device_pageShift : device.pageShift = 7 := by decide

@[simp] theorem device_maxMsg : device.maxMsg = 63 := rfl

@[simp] theorem device_sectorsPerFat : device.sectorsPerFat = 32 := by decide

@[simp] theorem device_startFat0 : device.startFat0 = 1 := rfl

@[simp] theorem device_startFat1 : device.startFat1 = 33 := by decide

@[simp] theorem device_startRootdir : device.startRootdir = 65 := by decide

@[simp] theorem device_startClusters : device.startClusters = 69 := by decide

@[simp] theorem device_ident_length : device.ident.length = 56 := by decide

@[simp] theorem device_html_length : device.html.length = 117 := by decide

@[simp] theorem device_fileNames_length : device.fileNames.length = 2 := rfl

@[simp] theorem device_magic_length : device.magic.length = 8 := by decide

/-- The registers of State hold every value of the default configuration. -/
theorem device_fits : device.fits = true := by decide

/-- In a valid configuration every exposed file fits one cluster and one directory entry (R7). -/
theorem valid_files {cfg : Config} (h : cfg.valid = true) :
    cfg.ident.length ≤ 512 ∧ cfg.html.length ≤ 512 ∧ cfg.numInfo + 1 ≤ 16 := by
  simp only [valid, Bool.and_eq_true, decide_eq_true_eq] at h
  grind

end Config

namespace Machine

/-- A register of the width it is kept in takes every value as it is (R8). -/
@[simp] theorem narrow_self {n : Nat} (v : BitVec n) : narrow n v = v := by simp [narrow]

/-- What a register of width `w` takes (R8). -/
theorem narrow_toNat {n w : Nat} (v : BitVec n) (h : w ≤ n) : (narrow w v).toNat = v.toNat % 2 ^ w := by
  have hlt : v.toNat % 2 ^ w < 2 ^ n :=
    lt_of_lt_of_le (Nat.mod_lt _ (by positivity)) (Nat.pow_le_pow_right (by decide) h)
  simp [narrow, Nat.mod_eq_of_lt hlt]

/-- The device reads a 16-bit address (R96). -/
@[simp] theorem byteAddr_device (c : List Byte) : byteAddr Config.device c = le16 c 12 := by simp [byteAddr]

/-- The device's acknowledgment counter has 8 bits (R29). -/
@[simp] theorem nextAckCount_device (n : BitVec 8) : nextAckCount Config.device n = n + 1 := by simp [nextAckCount]

/-- The device's metadata fields have 32 bits (R97). -/
@[simp] theorem declSize_device (c : List Byte) : declSize Config.device c = le32 c 0 := by simp [declSize]

@[simp] theorem blockIndex_device (c : List Byte) : blockIndex Config.device c = le32 c 4 := by simp [blockIndex]

@[simp] theorem declCount_device (c : List Byte) : declCount Config.device c = le32 c 8 := by simp [declCount]

end Machine

end Sys2Proof
end

