-- ==== Sys2Proof/Laws/Configured.lean ====
section
/-! SUPPORT. The machine with a configuration as its argument (`00_scope.md` R6) is, at the default configuration, this
hardware. -/

namespace Sys2Proof.Machine

@[simp] theorem resetFor_device : State.resetFor Config.device = State.reset := rfl

@[simp] theorem rebootFor_device (cause : Cause) (s : State) : s.rebootFor Config.device cause = s.reboot cause := rfl

@[simp] theorem decodeFor_device (p : Port) (bs : List Byte) : decodeFor Config.device p bs = decode p bs := rfl

@[simp] theorem encodeFor_device (i : Instr) : encodeFor Config.device i = encode i := rfl

@[simp] theorem wfFor_device (i : Instr) : i.wfFor Config.device = i.wf := rfl

/-- Every operation of this hardware is the one that takes a configuration, at `Config.device`. -/
theorem execFor_device (i : Instr) (s : State) : execFor Config.device i s = exec i s := rfl

/-- A turn whose unit decodes runs the instruction it decodes to. -/
theorem runTurn_run {dec : Port → List Byte → Decoded} {ex : Instr → State → Out} {u : Presented} {t : State}
    {i : Instr} (h : dec u.port u.bytes = .ok i) : runTurn dec ex (.run u t) = ex i t := by
  simp [runTurn, h]

/-- A step of this hardware is the step that takes a configuration, at `Config.device`. -/
theorem stepFor_device (s : State) : stepFor Config.device s = step s := rfl

end Sys2Proof.Machine
end

