-- ==== Sys2Proof/Laws/Decode.lean ====
section
/-! SUPPORT. The byte-order helpers and the units' fields: what reading back what was written gives. -/

namespace Sys2Proof

@[simp] theorem byteAt_cons_zero (b : Byte) (a : List Byte) : byteAt (b :: a) 0 = b := rfl

@[simp] theorem byteAt_cons_succ (b : Byte) (a : List Byte) (i : Nat) : byteAt (b :: a) (i + 1) = byteAt a i := rfl

@[simp] theorem bytesLE16_length (v : BitVec 16) : (bytesLE16 v).length = 2 := rfl

@[simp] theorem bytesLE32_length (v : BitVec 32) : (bytesLE32 v).length = 4 := rfl

@[simp] theorem bytesBE16_length (v : BitVec 16) : (bytesBE16 v).length = 2 := rfl

/-- Joining the two halves of a 16-bit value gives it back. -/
theorem join16 (v : BitVec 16) : v.extractLsb' 8 8 ++ v.extractLsb' 0 8 = v := by
  ext i hi
  simp only [BitVec.getElem_append, BitVec.getElem_extractLsb']
  split
  · simp [BitVec.getLsbD_eq_getElem hi]
  · rw [show 8 + (i - 8) = i by omega, BitVec.getLsbD_eq_getElem hi]

/-- Joining the four bytes of a 32-bit value gives it back. -/
theorem join32 (v : BitVec 32) :
    v.extractLsb' 24 8 ++ v.extractLsb' 16 8 ++ v.extractLsb' 8 8 ++ v.extractLsb' 0 8 = v := by
  ext i hi
  simp only [BitVec.getElem_append, BitVec.getElem_extractLsb']
  split
  · simp [BitVec.getLsbD_eq_getElem hi]
  · split
    · rw [show 8 + (i - 8) = i by omega, BitVec.getLsbD_eq_getElem hi]
    · split
      · rw [show 16 + (i - 8 - 8) = i by omega, BitVec.getLsbD_eq_getElem hi]
      · rw [show 24 + (i - 8 - 8 - 8) = i by omega, BitVec.getLsbD_eq_getElem hi]

/-- `le16` reads back `LE16(v)` at the start of an array (R9). -/
theorem le16_bytesLE16 (v : BitVec 16) (a : List Byte) : le16 (bytesLE16 v ++ a) 0 = v := join16 v

/-- `le32` reads back `LE32(v)` at the start of an array (R9). -/
theorem le32_bytesLE32 (v : BitVec 32) (a : List Byte) : le32 (bytesLE32 v ++ a) 0 = v := join32 v

/-- The device's flag is bit 7 of the framing byte (R104). -/
theorem framingFlag_device (b : Byte) : framingFlag Config.device b = b.getLsbD 7 := by
  revert b; decide

/-- The device's count is bits 6 to 0 of the framing byte (R104). -/
theorem framingCount_device (b : Byte) : framingCount Config.device b = b.setWidth 7 := by
  revert b; decide

/-- The framing byte's flag is set (R105). -/
theorem framingFlag_framingByte (k : BitVec 7) : framingFlag Config.device (framingByte Config.device k) = true := by
  revert k; decide

/-- The framing byte's count is the one it was made with (R105). -/
theorem framingCount_framingByte (k : BitVec 7) : framingCount Config.device (framingByte Config.device k) = k := by
  revert k; decide

/-- A framing byte with the flag set is the one made from its count (R104, R105). -/
theorem framingByte_framingCount (b : Byte) (h : framingFlag Config.device b = true) :
    framingByte Config.device (framingCount Config.device b) = b := by
  revert b; decide

/-- The two bytes of a joined 16-bit value. -/
theorem split16 (a b : Byte) : (b ++ a).extractLsb' 0 8 = a ∧ (b ++ a).extractLsb' 8 8 = b := by
  refine ⟨?_, ?_⟩ <;>
    (ext i hi; simp only [BitVec.getElem_extractLsb', BitVec.getLsbD_append]; grind)

/-- The four bytes of a joined 32-bit value. -/
theorem bytesLE32_join (a b c d : Byte) : bytesLE32 (d ++ c ++ b ++ a) = [a, b, c, d] := by
  simp only [bytesLE32, List.cons.injEq, and_true]
  refine ⟨?_, ?_, ?_, ?_⟩ <;>
    (ext i hi; simp only [BitVec.getElem_extractLsb', BitVec.getLsbD_append]; grind)

/-- A unit of its format's length decodes (R90). -/
theorem ofLength_ok {n : Nat} {bs : List Byte} (i : Instr) (h : bs.length = n) : ofLength n bs i = .ok i := if_pos h

/-- What a unit of a format with one length decodes to (R90). -/
theorem ofLength_eq_ok_iff {n : Nat} {bs : List Byte} {i j : Instr} :
    ofLength n bs i = .ok j ↔ bs.length = n ∧ i = j := by
  unfold ofLength
  split <;> simp_all

/-- A header chunk decodes (R93). -/
theorem decode_header {c : List Byte} (h : c.length = 16) : decode .header c = .ok (decodeHeader Config.device c) :=
  ofLength_ok _ h

/-- A metadata chunk decodes (R94). -/
theorem decode_metadata {c : List Byte} (h : c.length = 16) : decode .metadata c = .ok (.wrMeta c) := ofLength_ok _ h

/-- A payload chunk decodes in the form the state selects (R95). -/
theorem decode_payload (f : PayloadForm) {c : List Byte} (h : c.length = 16) :
    decode (.payload f) c = .ok (decodePayload f c) := ofLength_ok _ h

/-- A packet decodes (R104). -/
theorem decode_hidOut {p : List Byte} (h : p.length = 64) : decode .hidOut p = .ok (decodeHid Config.device p) :=
  ofLength_ok _ h

/-- A received byte decodes (R103). -/
theorem decode_rx (b : Byte) : decode .rx [b] = .ok (decodeRx Config.device b) :=
  ofLength_ok (n := 1) (bs := [b]) _ rfl

/-- The magic test as a proposition (R96). -/
theorem magicOk_iff (c : List Byte) : magicOk Config.device c = true ↔ c.take 8 = Config.device.magic := by
  simp only [magicOk, decide_eq_true_eq]
  simp

/-- Which class a header chunk has (R93). -/
theorem decodeHeader_cases (c : List Byte) :
    (c.take 8 = Config.device.magic ∧ skipFlag c = false ∧ decodeHeader Config.device c = .wrHdrLive c)
      ∨ (c.take 8 = Config.device.magic ∧ skipFlag c = true ∧ decodeHeader Config.device c = .wrHdrSkip c)
      ∨ (c.take 8 ≠ Config.device.magic ∧ decodeHeader Config.device c = .wrHdrNomagic c) := by
  have h := magicOk_iff c
  unfold decodeHeader
  split
  · rename_i hm
    split
    · rename_i hf; exact .inr (.inl ⟨h.1 hm, hf, rfl⟩)
    · rename_i hf; exact .inl ⟨h.1 hm, by simpa using hf, rfl⟩
  · rename_i hm; exact .inr (.inr ⟨fun hc => hm (h.2 hc), rfl⟩)

/-- Which operation a packet selects (R230). -/
theorem decodeHid_cases (p : List Byte) :
    (framingFlag Config.device (byteAt p 0) = true
        ∧ decodeHid Config.device p = .hidTunnel (framingCount Config.device (byteAt p 0)) (p.drop 1))
      ∨ (framingFlag Config.device (byteAt p 0) = false ∧ le32 p 1 = 1
        ∧ decodeHid Config.device p = .hidBininfo (le16 p 5))
      ∨ (framingFlag Config.device (byteAt p 0) = false ∧ le32 p 1 = 2
        ∧ decodeHid Config.device p = .hidInfo (le16 p 5))
      ∨ (framingFlag Config.device (byteAt p 0) = false ∧ le32 p 1 ≠ 1 ∧ le32 p 1 ≠ 2
        ∧ decodeHid Config.device p = .hidUnknown (le32 p 1) (le16 p 5)) := by
  unfold decodeHid
  simp only
  split
  · rename_i hf; exact .inl ⟨hf, rfl⟩
  · rename_i hf
    have hf : framingFlag Config.device (byteAt p 0) = false := by simpa using hf
    split
    · rename_i h; exact .inr (.inl ⟨hf, h, rfl⟩)
    · rename_i h
      split
      · rename_i h2; exact .inr (.inr (.inl ⟨hf, h2, rfl⟩))
      · rename_i h2; exact .inr (.inr (.inr ⟨hf, h, h2, rfl⟩))

/-- Which operation a received byte selects (R103). -/
theorem decodeRx_cases (b : Byte) :
    (b = 0x10 ∧ decodeRx Config.device b = .rxAck) ∨ (b ≠ 0x10 ∧ decodeRx Config.device b = .rxOther b) := by
  unfold decodeRx
  split
  · rename_i h; exact .inl ⟨h, rfl⟩
  · rename_i h; exact .inr ⟨h, rfl⟩

/-- Which region a read is in (R161). -/
theorem decodeRead_cases (lba : BitVec 32) :
    (lba.toNat = 0 ∧ decodeRead Config.device lba = .rdBoot)
      ∨ (1 ≤ lba.toNat ∧ lba.toNat < 65 ∧ decodeRead Config.device lba = .rdFat lba)
      ∨ (65 ≤ lba.toNat ∧ lba.toNat < 69 ∧ decodeRead Config.device lba = .rdRoot lba)
      ∨ (69 ≤ lba.toNat ∧ lba.toNat < 71 ∧ decodeRead Config.device lba = .rdData lba)
      ∨ (71 ≤ lba.toNat ∧ decodeRead Config.device lba = .rdZero lba) := by
  unfold decodeRead
  rw [Config.device_startRootdir, Config.device_startClusters]
  (repeat' split) <;> simp only [Config.device_numInfo] at * <;> grind

/-- A framed packet is one packet long (R108, R109). -/
theorem framedPacket_length (body : List Byte) (h : body.length ≤ 63) :
    (framedPacket Config.device body).length = 64 := by
  simp [framedPacket]; omega

/-- The used bytes of a framed packet are the ones it was made with (R108, R109). -/
theorem packetBody_framedPacket (body : List Byte) (h : body.length ≤ 63) :
    packetBody Config.device (framedPacket Config.device body) = .ok body := by
  have h1 := framedPacket_length body h
  have h0 : byteAt (framedPacket Config.device body) 0 = framingByte Config.device (BitVec.ofNat 7 body.length) := rfl
  have h2 : (BitVec.ofNat 7 body.length).toNat = body.length := by simp; omega
  have h3 : (framedPacket Config.device body).drop (body.length + 1) = zeros (63 - body.length) := by
    simp [framedPacket]
  have h4 : ((framedPacket Config.device body).drop 1).take body.length = body := by simp [framedPacket]
  unfold packetBody
  simp [h1, h0, framingFlag_framingByte, framingCount_framingByte, h2, h3, h, -BitVec.toNat_ofNat]
  simpa using h4

/-- A packet whose used bytes are `body` is the framed packet of `body` (R108, R109). -/
theorem packetBody_ok {q body : List Byte} (h : packetBody Config.device q = .ok body) :
    body.length ≤ 63 ∧ framedPacket Config.device body = q := by
  unfold packetBody at h
  simp only at h
  split at h
  · cases h
  split at h
  · rename_i h1 h2
    obtain ⟨hf, hn, hz⟩ := h2
    simp at h1 hn hz
    match q, h1 with
    | b :: r, h1 =>
      simp at h h1 hf hn hz
      have hl : body.length = (framingCount Config.device b).toNat := by rw [← h]; simp; omega
      refine ⟨by omega, ?_⟩
      have hc : BitVec.ofNat 7 body.length = framingCount Config.device b := by rw [hl]; simp
      simp only [framedPacket, hc, framingByte_framingCount b hf, List.cons_append, List.cons.injEq, true_and,
        Config.device_pkt]
      rw [hl, show 64 - 1 - (framingCount Config.device b).toNat = 63 - (framingCount Config.device b).toNat by omega,
        ← hz, ← h]
      simp
  · cases h

end Sys2Proof
end

