-- ==== Sys2Proof/Laws/Disk.lean ====
section
/-! SUPPORT. The FAT16 sector synthesizer's parts: their lengths, for every configuration. -/

namespace Sys2Proof.Machine

/-- A sector has 512 bytes (R160). -/
theorem sector_length {bs : List Byte} (h : bs.length ≤ 512) : (sector bs).length = 512 := by
  simp [sector]; omega

/-- A directory entry has 32 bytes (R116). -/
@[simp] theorem dirEntry_length (name : Vector Byte 11) (attr : Byte) (cluster : BitVec 16) (size : BitVec 32) :
    (dirEntry name attr cluster size).length = 32 := by
  simp [dirEntry, bytesLE16, bytesLE32]

/-- In a valid configuration every file's content fits one cluster (R7). -/
theorem fileContent_length_le {cfg : Config} (h : cfg.valid = true) (i : Nat) : (fileContent cfg i).length ≤ 512 := by
  obtain ⟨h1, h2, _⟩ := Config.valid_files h
  unfold fileContent
  split
  · exact h1
  · split
    · exact h2
    · simp

/-- From `START_FAT0` on, a FAT sector is the one R163 gives; the reserved blocks' free value is not read. -/
theorem fatSector_of_le {cfg : Config} {lba : BitVec 32} (h : cfg.startFat0 ≤ lba.toNat) :
    fatSector cfg lba = fatTable cfg (if lba.toNat - cfg.startFat0 ≥ cfg.sectorsPerFat
      then lba.toNat - cfg.startFat0 - cfg.sectorsPerFat else lba.toNat - cfg.startFat0) :=
  if_neg (by omega)

end Sys2Proof.Machine
end

