-- ==== Sys2Proof/Laws/State.lean ====
section
/-! SUPPORT. One lemma per field per shared update of the state, each true by rfl, so that no proof unfolds a record
update. -/

namespace Sys2Proof.Machine

variable (s : State)

/-! ### out -/

@[simp] theorem State.out_upc (e : SerEvent) : (s.out e).upc = s.upc := rfl

@[simp] theorem State.out_ci (e : SerEvent) : (s.out e).ci = s.ci := rfl

@[simp] theorem State.out_blkData (e : SerEvent) : (s.out e).blkData = s.blkData := rfl

@[simp] theorem State.out_chunkBuf (e : SerEvent) : (s.out e).chunkBuf = s.chunkBuf := rfl

@[simp] theorem State.out_wordAddr (e : SerEvent) : (s.out e).wordAddr = s.wordAddr := rfl

@[simp] theorem State.out_pagesPending (e : SerEvent) : (s.out e).pagesPending = s.pagesPending := rfl

@[simp] theorem State.out_inert (e : SerEvent) : (s.out e).inert = s.inert := rfl

@[simp] theorem State.out_started (e : SerEvent) : (s.out e).started = s.started := rfl

@[simp] theorem State.out_flushPending (e : SerEvent) : (s.out e).flushPending = s.flushPending := rfl

@[simp] theorem State.out_expCount (e : SerEvent) : (s.out e).expCount = s.expCount := rfl

@[simp] theorem State.out_bitmap (e : SerEvent) : (s.out e).bitmap = s.bitmap := rfl

@[simp] theorem State.out_writtenCount (e : SerEvent) : (s.out e).writtenCount = s.writtenCount := rfl

@[simp] theorem State.out_ackCount (e : SerEvent) : (s.out e).ackCount = s.ackCount := rfl

@[simp] theorem State.out_wdt (e : SerEvent) : (s.out e).wdt = s.wdt := rfl

@[simp] theorem State.out_h2t (e : SerEvent) : (s.out e).h2t = s.h2t := rfl

@[simp] theorem State.out_t2h (e : SerEvent) : (s.out e).t2h = s.t2h := rfl

@[simp] theorem State.out_txBuf (e : SerEvent) : (s.out e).txBuf = s.txBuf := rfl

@[simp] theorem State.out_resetLine (e : SerEvent) : (s.out e).resetLine = s.resetLine := rfl

@[simp] theorem State.out_serOut (e : SerEvent) : (s.out e).serOut = s.serOut ++ [e] := rfl

@[simp] theorem State.out_hidOut (e : SerEvent) : (s.out e).hidOut = s.hidOut := rfl

@[simp] theorem State.out_sysOut (e : SerEvent) : (s.out e).sysOut = s.sysOut := rfl

@[simp] theorem State.out_mscReply (e : SerEvent) : (s.out e).mscReply = s.mscReply := rfl

@[simp] theorem State.out_events (e : SerEvent) : (s.out e).events = s.events := rfl

/-! ### txAll -/

@[simp] theorem State.txAll_upc (a : List Byte) : (s.txAll a).upc = s.upc := rfl

@[simp] theorem State.txAll_ci (a : List Byte) : (s.txAll a).ci = s.ci := rfl

@[simp] theorem State.txAll_blkData (a : List Byte) : (s.txAll a).blkData = s.blkData := rfl

@[simp] theorem State.txAll_chunkBuf (a : List Byte) : (s.txAll a).chunkBuf = s.chunkBuf := rfl

@[simp] theorem State.txAll_wordAddr (a : List Byte) : (s.txAll a).wordAddr = s.wordAddr := rfl

@[simp] theorem State.txAll_pagesPending (a : List Byte) : (s.txAll a).pagesPending = s.pagesPending := rfl

@[simp] theorem State.txAll_inert (a : List Byte) : (s.txAll a).inert = s.inert := rfl

@[simp] theorem State.txAll_started (a : List Byte) : (s.txAll a).started = s.started := rfl

@[simp] theorem State.txAll_flushPending (a : List Byte) : (s.txAll a).flushPending = s.flushPending := rfl

@[simp] theorem State.txAll_expCount (a : List Byte) : (s.txAll a).expCount = s.expCount := rfl

@[simp] theorem State.txAll_bitmap (a : List Byte) : (s.txAll a).bitmap = s.bitmap := rfl

@[simp] theorem State.txAll_writtenCount (a : List Byte) : (s.txAll a).writtenCount = s.writtenCount := rfl

@[simp] theorem State.txAll_ackCount (a : List Byte) : (s.txAll a).ackCount = s.ackCount := rfl

@[simp] theorem State.txAll_wdt (a : List Byte) : (s.txAll a).wdt = s.wdt := rfl

@[simp] theorem State.txAll_h2t (a : List Byte) : (s.txAll a).h2t = s.h2t := rfl

@[simp] theorem State.txAll_t2h (a : List Byte) : (s.txAll a).t2h = s.t2h := rfl

@[simp] theorem State.txAll_txBuf (a : List Byte) : (s.txAll a).txBuf = s.txBuf := rfl

@[simp] theorem State.txAll_resetLine (a : List Byte) : (s.txAll a).resetLine = s.resetLine := rfl

@[simp] theorem State.txAll_serOut (a : List Byte) : (s.txAll a).serOut = s.serOut ++ a.map SerEvent.tx := rfl

@[simp] theorem State.txAll_hidOut (a : List Byte) : (s.txAll a).hidOut = s.hidOut := rfl

@[simp] theorem State.txAll_sysOut (a : List Byte) : (s.txAll a).sysOut = s.sysOut := rfl

@[simp] theorem State.txAll_mscReply (a : List Byte) : (s.txAll a).mscReply = s.mscReply := rfl

@[simp] theorem State.txAll_events (a : List Byte) : (s.txAll a).events = s.events := rfl

/-! ### tx -/

@[simp] theorem State.tx_upc (b : Byte) : (s.tx b).upc = s.upc := rfl

@[simp] theorem State.tx_ci (b : Byte) : (s.tx b).ci = s.ci := rfl

@[simp] theorem State.tx_blkData (b : Byte) : (s.tx b).blkData = s.blkData := rfl

@[simp] theorem State.tx_chunkBuf (b : Byte) : (s.tx b).chunkBuf = s.chunkBuf := rfl

@[simp] theorem State.tx_wordAddr (b : Byte) : (s.tx b).wordAddr = s.wordAddr := rfl

@[simp] theorem State.tx_pagesPending (b : Byte) : (s.tx b).pagesPending = s.pagesPending := rfl

@[simp] theorem State.tx_inert (b : Byte) : (s.tx b).inert = s.inert := rfl

@[simp] theorem State.tx_started (b : Byte) : (s.tx b).started = s.started := rfl

@[simp] theorem State.tx_flushPending (b : Byte) : (s.tx b).flushPending = s.flushPending := rfl

@[simp] theorem State.tx_expCount (b : Byte) : (s.tx b).expCount = s.expCount := rfl

@[simp] theorem State.tx_bitmap (b : Byte) : (s.tx b).bitmap = s.bitmap := rfl

@[simp] theorem State.tx_writtenCount (b : Byte) : (s.tx b).writtenCount = s.writtenCount := rfl

@[simp] theorem State.tx_ackCount (b : Byte) : (s.tx b).ackCount = s.ackCount := rfl

@[simp] theorem State.tx_wdt (b : Byte) : (s.tx b).wdt = s.wdt := rfl

@[simp] theorem State.tx_h2t (b : Byte) : (s.tx b).h2t = s.h2t := rfl

@[simp] theorem State.tx_t2h (b : Byte) : (s.tx b).t2h = s.t2h := rfl

@[simp] theorem State.tx_txBuf (b : Byte) : (s.tx b).txBuf = s.txBuf := rfl

@[simp] theorem State.tx_resetLine (b : Byte) : (s.tx b).resetLine = s.resetLine := rfl

@[simp] theorem State.tx_serOut (b : Byte) : (s.tx b).serOut = s.serOut ++ [SerEvent.tx b] := rfl

@[simp] theorem State.tx_hidOut (b : Byte) : (s.tx b).hidOut = s.hidOut := rfl

@[simp] theorem State.tx_sysOut (b : Byte) : (s.tx b).sysOut = s.sysOut := rfl

@[simp] theorem State.tx_mscReply (b : Byte) : (s.tx b).mscReply = s.mscReply := rfl

@[simp] theorem State.tx_events (b : Byte) : (s.tx b).events = s.events := rfl

/-! ### hidSend -/

@[simp] theorem State.hidSend_upc (p : List Byte) : (s.hidSend p).upc = s.upc := rfl

@[simp] theorem State.hidSend_ci (p : List Byte) : (s.hidSend p).ci = s.ci := rfl

@[simp] theorem State.hidSend_blkData (p : List Byte) : (s.hidSend p).blkData = s.blkData := rfl

@[simp] theorem State.hidSend_chunkBuf (p : List Byte) : (s.hidSend p).chunkBuf = s.chunkBuf := rfl

@[simp] theorem State.hidSend_wordAddr (p : List Byte) : (s.hidSend p).wordAddr = s.wordAddr := rfl

@[simp] theorem State.hidSend_pagesPending (p : List Byte) : (s.hidSend p).pagesPending = s.pagesPending := rfl

@[simp] theorem State.hidSend_inert (p : List Byte) : (s.hidSend p).inert = s.inert := rfl

@[simp] theorem State.hidSend_started (p : List Byte) : (s.hidSend p).started = s.started := rfl

@[simp] theorem State.hidSend_flushPending (p : List Byte) : (s.hidSend p).flushPending = s.flushPending := rfl

@[simp] theorem State.hidSend_expCount (p : List Byte) : (s.hidSend p).expCount = s.expCount := rfl

@[simp] theorem State.hidSend_bitmap (p : List Byte) : (s.hidSend p).bitmap = s.bitmap := rfl

@[simp] theorem State.hidSend_writtenCount (p : List Byte) : (s.hidSend p).writtenCount = s.writtenCount := rfl

@[simp] theorem State.hidSend_ackCount (p : List Byte) : (s.hidSend p).ackCount = s.ackCount := rfl

@[simp] theorem State.hidSend_wdt (p : List Byte) : (s.hidSend p).wdt = s.wdt := rfl

@[simp] theorem State.hidSend_h2t (p : List Byte) : (s.hidSend p).h2t = s.h2t := rfl

@[simp] theorem State.hidSend_t2h (p : List Byte) : (s.hidSend p).t2h = s.t2h := rfl

@[simp] theorem State.hidSend_txBuf (p : List Byte) : (s.hidSend p).txBuf = p := rfl

@[simp] theorem State.hidSend_resetLine (p : List Byte) : (s.hidSend p).resetLine = s.resetLine := rfl

@[simp] theorem State.hidSend_serOut (p : List Byte) : (s.hidSend p).serOut = s.serOut := rfl

@[simp] theorem State.hidSend_hidOut (p : List Byte) : (s.hidSend p).hidOut = s.hidOut ++ [p] := rfl

@[simp] theorem State.hidSend_sysOut (p : List Byte) : (s.hidSend p).sysOut = s.sysOut := rfl

@[simp] theorem State.hidSend_mscReply (p : List Byte) : (s.hidSend p).mscReply = s.mscReply := rfl

@[simp] theorem State.hidSend_events (p : List Byte) : (s.hidSend p).events = s.events := rfl

/-! ### sendSync -/

@[simp] theorem State.sendSync_upc (cfg : Config) : (s.sendSync cfg).upc = s.upc := rfl

@[simp] theorem State.sendSync_ci (cfg : Config) : (s.sendSync cfg).ci = s.ci := rfl

@[simp] theorem State.sendSync_blkData (cfg : Config) : (s.sendSync cfg).blkData = s.blkData := rfl

@[simp] theorem State.sendSync_chunkBuf (cfg : Config) : (s.sendSync cfg).chunkBuf = s.chunkBuf := rfl

@[simp] theorem State.sendSync_wordAddr (cfg : Config) : (s.sendSync cfg).wordAddr = s.wordAddr := rfl

@[simp] theorem State.sendSync_pagesPending (cfg : Config) : (s.sendSync cfg).pagesPending = s.pagesPending := rfl

@[simp] theorem State.sendSync_inert (cfg : Config) : (s.sendSync cfg).inert = s.inert := rfl

@[simp] theorem State.sendSync_started (cfg : Config) : (s.sendSync cfg).started = s.started := rfl

@[simp] theorem State.sendSync_flushPending (cfg : Config) : (s.sendSync cfg).flushPending = s.flushPending := rfl

@[simp] theorem State.sendSync_expCount (cfg : Config) : (s.sendSync cfg).expCount = s.expCount := rfl

@[simp] theorem State.sendSync_bitmap (cfg : Config) : (s.sendSync cfg).bitmap = s.bitmap := rfl

@[simp] theorem State.sendSync_writtenCount (cfg : Config) : (s.sendSync cfg).writtenCount = s.writtenCount := rfl

@[simp] theorem State.sendSync_ackCount (cfg : Config) : (s.sendSync cfg).ackCount = 0 := rfl

@[simp] theorem State.sendSync_wdt (cfg : Config) : (s.sendSync cfg).wdt = armHandshake s.wdt := rfl

@[simp] theorem State.sendSync_h2t (cfg : Config) : (s.sendSync cfg).h2t = s.h2t := rfl

@[simp] theorem State.sendSync_t2h (cfg : Config) : (s.sendSync cfg).t2h = s.t2h := rfl

@[simp] theorem State.sendSync_txBuf (cfg : Config) : (s.sendSync cfg).txBuf = s.txBuf := rfl

@[simp] theorem State.sendSync_resetLine (cfg : Config) : (s.sendSync cfg).resetLine = s.resetLine := rfl

@[simp] theorem State.sendSync_serOut (cfg : Config) : (s.sendSync cfg).serOut = s.serOut ++ [SerEvent.tx cfg.syncEop] := rfl

@[simp] theorem State.sendSync_hidOut (cfg : Config) : (s.sendSync cfg).hidOut = s.hidOut := rfl

@[simp] theorem State.sendSync_sysOut (cfg : Config) : (s.sendSync cfg).sysOut = s.sysOut := rfl

@[simp] theorem State.sendSync_mscReply (cfg : Config) : (s.sendSync cfg).mscReply = s.mscReply := rfl

@[simp] theorem State.sendSync_events (cfg : Config) : (s.sendSync cfg).events = s.events := rfl

/-! ### handshake -/

@[simp] theorem State.handshake_upc (cfg : Config) (k : Upc) : (s.handshake cfg k).upc = k := rfl

@[simp] theorem State.handshake_ci (cfg : Config) (k : Upc) : (s.handshake cfg k).ci = s.ci := rfl

@[simp] theorem State.handshake_blkData (cfg : Config) (k : Upc) : (s.handshake cfg k).blkData = s.blkData := rfl

@[simp] theorem State.handshake_chunkBuf (cfg : Config) (k : Upc) : (s.handshake cfg k).chunkBuf = s.chunkBuf := rfl

@[simp] theorem State.handshake_wordAddr (cfg : Config) (k : Upc) : (s.handshake cfg k).wordAddr = s.wordAddr := rfl

@[simp] theorem State.handshake_pagesPending (cfg : Config) (k : Upc) : (s.handshake cfg k).pagesPending = s.pagesPending := rfl

@[simp] theorem State.handshake_inert (cfg : Config) (k : Upc) : (s.handshake cfg k).inert = s.inert := rfl

@[simp] theorem State.handshake_started (cfg : Config) (k : Upc) : (s.handshake cfg k).started = s.started := rfl

@[simp] theorem State.handshake_flushPending (cfg : Config) (k : Upc) : (s.handshake cfg k).flushPending = s.flushPending := rfl

@[simp] theorem State.handshake_expCount (cfg : Config) (k : Upc) : (s.handshake cfg k).expCount = s.expCount := rfl

@[simp] theorem State.handshake_bitmap (cfg : Config) (k : Upc) : (s.handshake cfg k).bitmap = s.bitmap := rfl

@[simp] theorem State.handshake_writtenCount (cfg : Config) (k : Upc) : (s.handshake cfg k).writtenCount = s.writtenCount := rfl

@[simp] theorem State.handshake_ackCount (cfg : Config) (k : Upc) : (s.handshake cfg k).ackCount = 0 := rfl

@[simp] theorem State.handshake_wdt (cfg : Config) (k : Upc) : (s.handshake cfg k).wdt = armHandshake s.wdt := rfl

@[simp] theorem State.handshake_h2t (cfg : Config) (k : Upc) : (s.handshake cfg k).h2t = s.h2t := rfl

@[simp] theorem State.handshake_t2h (cfg : Config) (k : Upc) : (s.handshake cfg k).t2h = s.t2h := rfl

@[simp] theorem State.handshake_txBuf (cfg : Config) (k : Upc) : (s.handshake cfg k).txBuf = s.txBuf := rfl

@[simp] theorem State.handshake_resetLine (cfg : Config) (k : Upc) : (s.handshake cfg k).resetLine = s.resetLine := rfl

@[simp] theorem State.handshake_serOut (cfg : Config) (k : Upc) : (s.handshake cfg k).serOut = s.serOut ++ [SerEvent.tx cfg.syncEop] := rfl

@[simp] theorem State.handshake_hidOut (cfg : Config) (k : Upc) : (s.handshake cfg k).hidOut = s.hidOut := rfl

@[simp] theorem State.handshake_sysOut (cfg : Config) (k : Upc) : (s.handshake cfg k).sysOut = s.sysOut := rfl

@[simp] theorem State.handshake_mscReply (cfg : Config) (k : Upc) : (s.handshake cfg k).mscReply = s.mscReply := rfl

@[simp] theorem State.handshake_events (cfg : Config) (k : Upc) : (s.handshake cfg k).events = s.events := rfl

/-! ### endWait -/

@[simp] theorem State.endWait_upc : s.endWait.upc = s.upc := rfl

@[simp] theorem State.endWait_ci : s.endWait.ci = s.ci := rfl

@[simp] theorem State.endWait_blkData : s.endWait.blkData = s.blkData := rfl

@[simp] theorem State.endWait_chunkBuf : s.endWait.chunkBuf = s.chunkBuf := rfl

@[simp] theorem State.endWait_wordAddr : s.endWait.wordAddr = s.wordAddr := rfl

@[simp] theorem State.endWait_pagesPending : s.endWait.pagesPending = s.pagesPending := rfl

@[simp] theorem State.endWait_inert : s.endWait.inert = s.inert := rfl

@[simp] theorem State.endWait_started : s.endWait.started = s.started := rfl

@[simp] theorem State.endWait_flushPending : s.endWait.flushPending = s.flushPending := rfl

@[simp] theorem State.endWait_expCount : s.endWait.expCount = s.expCount := rfl

@[simp] theorem State.endWait_bitmap : s.endWait.bitmap = s.bitmap := rfl

@[simp] theorem State.endWait_writtenCount : s.endWait.writtenCount = s.writtenCount := rfl

@[simp] theorem State.endWait_ackCount : s.endWait.ackCount = s.ackCount := rfl

@[simp] theorem State.endWait_wdt : s.endWait.wdt = endHandshake s.wdt := rfl

@[simp] theorem State.endWait_h2t : s.endWait.h2t = s.h2t := rfl

@[simp] theorem State.endWait_t2h : s.endWait.t2h = s.t2h := rfl

@[simp] theorem State.endWait_txBuf : s.endWait.txBuf = s.txBuf := rfl

@[simp] theorem State.endWait_resetLine : s.endWait.resetLine = s.resetLine := rfl

@[simp] theorem State.endWait_serOut : s.endWait.serOut = s.serOut := rfl

@[simp] theorem State.endWait_hidOut : s.endWait.hidOut = s.hidOut := rfl

@[simp] theorem State.endWait_sysOut : s.endWait.sysOut = s.sysOut := rfl

@[simp] theorem State.endWait_mscReply : s.endWait.mscReply = s.mscReply := rfl

@[simp] theorem State.endWait_events : s.endWait.events = s.events := rfl

/-! ### resetTarget -/

@[simp] theorem State.resetTarget_upc : s.resetTarget.upc = s.upc := rfl

@[simp] theorem State.resetTarget_ci : s.resetTarget.ci = s.ci := rfl

@[simp] theorem State.resetTarget_blkData : s.resetTarget.blkData = s.blkData := rfl

@[simp] theorem State.resetTarget_chunkBuf : s.resetTarget.chunkBuf = s.chunkBuf := rfl

@[simp] theorem State.resetTarget_wordAddr : s.resetTarget.wordAddr = s.wordAddr := rfl

@[simp] theorem State.resetTarget_pagesPending : s.resetTarget.pagesPending = s.pagesPending := rfl

@[simp] theorem State.resetTarget_inert : s.resetTarget.inert = s.inert := rfl

@[simp] theorem State.resetTarget_started : s.resetTarget.started = true := rfl

@[simp] theorem State.resetTarget_flushPending : s.resetTarget.flushPending = s.flushPending := rfl

@[simp] theorem State.resetTarget_expCount : s.resetTarget.expCount = s.expCount := rfl

@[simp] theorem State.resetTarget_bitmap : s.resetTarget.bitmap = s.bitmap := rfl

@[simp] theorem State.resetTarget_writtenCount : s.resetTarget.writtenCount = s.writtenCount := rfl

@[simp] theorem State.resetTarget_ackCount : s.resetTarget.ackCount = s.ackCount := rfl

@[simp] theorem State.resetTarget_wdt : s.resetTarget.wdt = s.wdt := rfl

@[simp] theorem State.resetTarget_h2t : s.resetTarget.h2t = s.h2t := rfl

@[simp] theorem State.resetTarget_t2h : s.resetTarget.t2h = s.t2h := rfl

@[simp] theorem State.resetTarget_txBuf : s.resetTarget.txBuf = s.txBuf := rfl

@[simp] theorem State.resetTarget_resetLine : s.resetTarget.resetLine = .released := rfl

@[simp] theorem State.resetTarget_serOut : s.resetTarget.serOut = s.serOut ++ [SerEvent.resetStart] := rfl

@[simp] theorem State.resetTarget_hidOut : s.resetTarget.hidOut = s.hidOut := rfl

@[simp] theorem State.resetTarget_sysOut : s.resetTarget.sysOut = s.sysOut := rfl

@[simp] theorem State.resetTarget_mscReply : s.resetTarget.mscReply = s.mscReply := rfl

@[simp] theorem State.resetTarget_events : s.resetTarget.events = s.events := rfl

/-! ### restartTarget -/

@[simp] theorem State.restartTarget_upc : s.restartTarget.upc = s.upc := rfl

@[simp] theorem State.restartTarget_ci : s.restartTarget.ci = s.ci := rfl

@[simp] theorem State.restartTarget_blkData : s.restartTarget.blkData = s.blkData := rfl

@[simp] theorem State.restartTarget_chunkBuf : s.restartTarget.chunkBuf = s.chunkBuf := rfl

@[simp] theorem State.restartTarget_wordAddr : s.restartTarget.wordAddr = s.wordAddr := rfl

@[simp] theorem State.restartTarget_pagesPending : s.restartTarget.pagesPending = s.pagesPending := rfl

@[simp] theorem State.restartTarget_inert : s.restartTarget.inert = s.inert := rfl

@[simp] theorem State.restartTarget_started : s.restartTarget.started = s.started := rfl

@[simp] theorem State.restartTarget_flushPending : s.restartTarget.flushPending = s.flushPending := rfl

@[simp] theorem State.restartTarget_expCount : s.restartTarget.expCount = s.expCount := rfl

@[simp] theorem State.restartTarget_bitmap : s.restartTarget.bitmap = s.bitmap := rfl

@[simp] theorem State.restartTarget_writtenCount : s.restartTarget.writtenCount = s.writtenCount := rfl

@[simp] theorem State.restartTarget_ackCount : s.restartTarget.ackCount = s.ackCount := rfl

@[simp] theorem State.restartTarget_wdt : s.restartTarget.wdt = s.wdt := rfl

@[simp] theorem State.restartTarget_h2t : s.restartTarget.h2t = s.h2t := rfl

@[simp] theorem State.restartTarget_t2h : s.restartTarget.t2h = s.t2h := rfl

@[simp] theorem State.restartTarget_txBuf : s.restartTarget.txBuf = s.txBuf := rfl

@[simp] theorem State.restartTarget_resetLine : s.restartTarget.resetLine = .released := rfl

@[simp] theorem State.restartTarget_serOut : s.restartTarget.serOut = s.serOut ++ [SerEvent.resetFinish] := rfl

@[simp] theorem State.restartTarget_hidOut : s.restartTarget.hidOut = s.hidOut := rfl

@[simp] theorem State.restartTarget_sysOut : s.restartTarget.sysOut = s.sysOut := rfl

@[simp] theorem State.restartTarget_mscReply : s.restartTarget.mscReply = s.mscReply := rfl

@[simp] theorem State.restartTarget_events : s.restartTarget.events = s.events := rfl

/-! ### fetchChunk -/

@[simp] theorem State.fetchChunk_upc (c : List Byte) : (s.fetchChunk c).upc = s.upc := rfl

@[simp] theorem State.fetchChunk_ci (c : List Byte) : (s.fetchChunk c).ci = s.ci := rfl

@[simp] theorem State.fetchChunk_blkData (c : List Byte) : (s.fetchChunk c).blkData = s.blkData := rfl

@[simp] theorem State.fetchChunk_chunkBuf (c : List Byte) : (s.fetchChunk c).chunkBuf = c := rfl

@[simp] theorem State.fetchChunk_wordAddr (c : List Byte) : (s.fetchChunk c).wordAddr = s.wordAddr := rfl

@[simp] theorem State.fetchChunk_pagesPending (c : List Byte) : (s.fetchChunk c).pagesPending = s.pagesPending := rfl

@[simp] theorem State.fetchChunk_inert (c : List Byte) : (s.fetchChunk c).inert = s.inert := rfl

@[simp] theorem State.fetchChunk_started (c : List Byte) : (s.fetchChunk c).started = s.started := rfl

@[simp] theorem State.fetchChunk_flushPending (c : List Byte) : (s.fetchChunk c).flushPending = s.flushPending := rfl

@[simp] theorem State.fetchChunk_expCount (c : List Byte) : (s.fetchChunk c).expCount = s.expCount := rfl

@[simp] theorem State.fetchChunk_bitmap (c : List Byte) : (s.fetchChunk c).bitmap = s.bitmap := rfl

@[simp] theorem State.fetchChunk_writtenCount (c : List Byte) : (s.fetchChunk c).writtenCount = s.writtenCount := rfl

@[simp] theorem State.fetchChunk_ackCount (c : List Byte) : (s.fetchChunk c).ackCount = s.ackCount := rfl

@[simp] theorem State.fetchChunk_wdt (c : List Byte) : (s.fetchChunk c).wdt = s.wdt := rfl

@[simp] theorem State.fetchChunk_h2t (c : List Byte) : (s.fetchChunk c).h2t = s.h2t := rfl

@[simp] theorem State.fetchChunk_t2h (c : List Byte) : (s.fetchChunk c).t2h = s.t2h := rfl

@[simp] theorem State.fetchChunk_txBuf (c : List Byte) : (s.fetchChunk c).txBuf = s.txBuf := rfl

@[simp] theorem State.fetchChunk_resetLine (c : List Byte) : (s.fetchChunk c).resetLine = s.resetLine := rfl

@[simp] theorem State.fetchChunk_serOut (c : List Byte) : (s.fetchChunk c).serOut = s.serOut := rfl

@[simp] theorem State.fetchChunk_hidOut (c : List Byte) : (s.fetchChunk c).hidOut = s.hidOut := rfl

@[simp] theorem State.fetchChunk_sysOut (c : List Byte) : (s.fetchChunk c).sysOut = s.sysOut := rfl

@[simp] theorem State.fetchChunk_mscReply (c : List Byte) : (s.fetchChunk c).mscReply = s.mscReply := rfl

@[simp] theorem State.fetchChunk_events (c : List Byte) : (s.fetchChunk c).events = s.events := rfl

/-! ### nextChunk -/

@[simp] theorem State.nextChunk_upc : s.nextChunk.upc = s.upc := rfl

@[simp] theorem State.nextChunk_ci : s.nextChunk.ci = s.ci + 1 := rfl

@[simp] theorem State.nextChunk_blkData : s.nextChunk.blkData = s.blkData := rfl

@[simp] theorem State.nextChunk_chunkBuf : s.nextChunk.chunkBuf = s.chunkBuf := rfl

@[simp] theorem State.nextChunk_wordAddr : s.nextChunk.wordAddr = s.wordAddr := rfl

@[simp] theorem State.nextChunk_pagesPending : s.nextChunk.pagesPending = s.pagesPending := rfl

@[simp] theorem State.nextChunk_inert : s.nextChunk.inert = s.inert := rfl

@[simp] theorem State.nextChunk_started : s.nextChunk.started = s.started := rfl

@[simp] theorem State.nextChunk_flushPending : s.nextChunk.flushPending = s.flushPending := rfl

@[simp] theorem State.nextChunk_expCount : s.nextChunk.expCount = s.expCount := rfl

@[simp] theorem State.nextChunk_bitmap : s.nextChunk.bitmap = s.bitmap := rfl

@[simp] theorem State.nextChunk_writtenCount : s.nextChunk.writtenCount = s.writtenCount := rfl

@[simp] theorem State.nextChunk_ackCount : s.nextChunk.ackCount = s.ackCount := rfl

@[simp] theorem State.nextChunk_wdt : s.nextChunk.wdt = s.wdt := rfl

@[simp] theorem State.nextChunk_h2t : s.nextChunk.h2t = s.h2t := rfl

@[simp] theorem State.nextChunk_t2h : s.nextChunk.t2h = s.t2h := rfl

@[simp] theorem State.nextChunk_txBuf : s.nextChunk.txBuf = s.txBuf := rfl

@[simp] theorem State.nextChunk_resetLine : s.nextChunk.resetLine = s.resetLine := rfl

@[simp] theorem State.nextChunk_serOut : s.nextChunk.serOut = s.serOut := rfl

@[simp] theorem State.nextChunk_hidOut : s.nextChunk.hidOut = s.hidOut := rfl

@[simp] theorem State.nextChunk_sysOut : s.nextChunk.sysOut = s.sysOut := rfl

@[simp] theorem State.nextChunk_mscReply : s.nextChunk.mscReply = s.mscReply := rfl

@[simp] theorem State.nextChunk_events : s.nextChunk.events = s.events := rfl

/-! ### sendReply -/

@[simp] theorem State.sendReply_upc (cfg : Config) (body : List Byte) : (s.sendReply cfg body).upc = s.upc := rfl

@[simp] theorem State.sendReply_ci (cfg : Config) (body : List Byte) : (s.sendReply cfg body).ci = s.ci := rfl

@[simp] theorem State.sendReply_blkData (cfg : Config) (body : List Byte) : (s.sendReply cfg body).blkData = s.blkData := rfl

@[simp] theorem State.sendReply_chunkBuf (cfg : Config) (body : List Byte) : (s.sendReply cfg body).chunkBuf = s.chunkBuf := rfl

@[simp] theorem State.sendReply_wordAddr (cfg : Config) (body : List Byte) : (s.sendReply cfg body).wordAddr = s.wordAddr := rfl

@[simp] theorem State.sendReply_pagesPending (cfg : Config) (body : List Byte) : (s.sendReply cfg body).pagesPending = s.pagesPending := rfl

@[simp] theorem State.sendReply_inert (cfg : Config) (body : List Byte) : (s.sendReply cfg body).inert = s.inert := rfl

@[simp] theorem State.sendReply_started (cfg : Config) (body : List Byte) : (s.sendReply cfg body).started = s.started := rfl

@[simp] theorem State.sendReply_flushPending (cfg : Config) (body : List Byte) : (s.sendReply cfg body).flushPending = s.flushPending := rfl

@[simp] theorem State.sendReply_expCount (cfg : Config) (body : List Byte) : (s.sendReply cfg body).expCount = s.expCount := rfl

@[simp] theorem State.sendReply_bitmap (cfg : Config) (body : List Byte) : (s.sendReply cfg body).bitmap = s.bitmap := rfl

@[simp] theorem State.sendReply_writtenCount (cfg : Config) (body : List Byte) : (s.sendReply cfg body).writtenCount = s.writtenCount := rfl

@[simp] theorem State.sendReply_ackCount (cfg : Config) (body : List Byte) : (s.sendReply cfg body).ackCount = s.ackCount := rfl

@[simp] theorem State.sendReply_wdt (cfg : Config) (body : List Byte) : (s.sendReply cfg body).wdt = s.wdt := rfl

@[simp] theorem State.sendReply_h2t (cfg : Config) (body : List Byte) : (s.sendReply cfg body).h2t = s.h2t := rfl

@[simp] theorem State.sendReply_t2h (cfg : Config) (body : List Byte) : (s.sendReply cfg body).t2h = s.t2h := rfl

@[simp] theorem State.sendReply_txBuf (cfg : Config) (body : List Byte) : (s.sendReply cfg body).txBuf = flushReply cfg (assembleReply cfg body) := rfl

@[simp] theorem State.sendReply_resetLine (cfg : Config) (body : List Byte) : (s.sendReply cfg body).resetLine = s.resetLine := rfl

@[simp] theorem State.sendReply_serOut (cfg : Config) (body : List Byte) : (s.sendReply cfg body).serOut = s.serOut := rfl

@[simp] theorem State.sendReply_hidOut (cfg : Config) (body : List Byte) : (s.sendReply cfg body).hidOut = s.hidOut ++ [flushReply cfg (assembleReply cfg body)] := rfl

@[simp] theorem State.sendReply_sysOut (cfg : Config) (body : List Byte) : (s.sendReply cfg body).sysOut = s.sysOut := rfl

@[simp] theorem State.sendReply_mscReply (cfg : Config) (body : List Byte) : (s.sendReply cfg body).mscReply = s.mscReply := rfl

@[simp] theorem State.sendReply_events (cfg : Config) (body : List Byte) : (s.sendReply cfg body).events = s.events := rfl

/-! ### sendRelay -/

@[simp] theorem State.sendRelay_upc (cfg : Config) (body : List Byte) : (s.sendRelay cfg body).upc = s.upc := rfl

@[simp] theorem State.sendRelay_ci (cfg : Config) (body : List Byte) : (s.sendRelay cfg body).ci = s.ci := rfl

@[simp] theorem State.sendRelay_blkData (cfg : Config) (body : List Byte) : (s.sendRelay cfg body).blkData = s.blkData := rfl

@[simp] theorem State.sendRelay_chunkBuf (cfg : Config) (body : List Byte) : (s.sendRelay cfg body).chunkBuf = s.chunkBuf := rfl

@[simp] theorem State.sendRelay_wordAddr (cfg : Config) (body : List Byte) : (s.sendRelay cfg body).wordAddr = s.wordAddr := rfl

@[simp] theorem State.sendRelay_pagesPending (cfg : Config) (body : List Byte) : (s.sendRelay cfg body).pagesPending = s.pagesPending := rfl

@[simp] theorem State.sendRelay_inert (cfg : Config) (body : List Byte) : (s.sendRelay cfg body).inert = s.inert := rfl

@[simp] theorem State.sendRelay_started (cfg : Config) (body : List Byte) : (s.sendRelay cfg body).started = s.started := rfl

@[simp] theorem State.sendRelay_flushPending (cfg : Config) (body : List Byte) : (s.sendRelay cfg body).flushPending = s.flushPending := rfl

@[simp] theorem State.sendRelay_expCount (cfg : Config) (body : List Byte) : (s.sendRelay cfg body).expCount = s.expCount := rfl

@[simp] theorem State.sendRelay_bitmap (cfg : Config) (body : List Byte) : (s.sendRelay cfg body).bitmap = s.bitmap := rfl

@[simp] theorem State.sendRelay_writtenCount (cfg : Config) (body : List Byte) : (s.sendRelay cfg body).writtenCount = s.writtenCount := rfl

@[simp] theorem State.sendRelay_ackCount (cfg : Config) (body : List Byte) : (s.sendRelay cfg body).ackCount = s.ackCount := rfl

@[simp] theorem State.sendRelay_wdt (cfg : Config) (body : List Byte) : (s.sendRelay cfg body).wdt = s.wdt := rfl

@[simp] theorem State.sendRelay_h2t (cfg : Config) (body : List Byte) : (s.sendRelay cfg body).h2t = s.h2t := rfl

@[simp] theorem State.sendRelay_t2h (cfg : Config) (body : List Byte) : (s.sendRelay cfg body).t2h = s.t2h := rfl

@[simp] theorem State.sendRelay_txBuf (cfg : Config) (body : List Byte) : (s.sendRelay cfg body).txBuf = framedPacket cfg body := rfl

@[simp] theorem State.sendRelay_resetLine (cfg : Config) (body : List Byte) : (s.sendRelay cfg body).resetLine = s.resetLine := rfl

@[simp] theorem State.sendRelay_serOut (cfg : Config) (body : List Byte) : (s.sendRelay cfg body).serOut = s.serOut := rfl

@[simp] theorem State.sendRelay_hidOut (cfg : Config) (body : List Byte) : (s.sendRelay cfg body).hidOut = s.hidOut ++ [framedPacket cfg body] := rfl

@[simp] theorem State.sendRelay_sysOut (cfg : Config) (body : List Byte) : (s.sendRelay cfg body).sysOut = s.sysOut := rfl

@[simp] theorem State.sendRelay_mscReply (cfg : Config) (body : List Byte) : (s.sendRelay cfg body).mscReply = s.mscReply := rfl

@[simp] theorem State.sendRelay_events (cfg : Config) (body : List Byte) : (s.sendRelay cfg body).events = s.events := rfl

/-! ### receive -/

@[simp] theorem State.receive_upc (cfg : Config) (b : Byte) : (s.receive cfg b).upc = s.upc := rfl

@[simp] theorem State.receive_ci (cfg : Config) (b : Byte) : (s.receive cfg b).ci = s.ci := rfl

@[simp] theorem State.receive_blkData (cfg : Config) (b : Byte) : (s.receive cfg b).blkData = s.blkData := rfl

@[simp] theorem State.receive_chunkBuf (cfg : Config) (b : Byte) : (s.receive cfg b).chunkBuf = s.chunkBuf := rfl

@[simp] theorem State.receive_wordAddr (cfg : Config) (b : Byte) : (s.receive cfg b).wordAddr = s.wordAddr := rfl

@[simp] theorem State.receive_pagesPending (cfg : Config) (b : Byte) : (s.receive cfg b).pagesPending = s.pagesPending := rfl

@[simp] theorem State.receive_inert (cfg : Config) (b : Byte) : (s.receive cfg b).inert = s.inert := rfl

@[simp] theorem State.receive_started (cfg : Config) (b : Byte) : (s.receive cfg b).started = s.started := rfl

@[simp] theorem State.receive_flushPending (cfg : Config) (b : Byte) : (s.receive cfg b).flushPending = s.flushPending := rfl

@[simp] theorem State.receive_expCount (cfg : Config) (b : Byte) : (s.receive cfg b).expCount = s.expCount := rfl

@[simp] theorem State.receive_bitmap (cfg : Config) (b : Byte) : (s.receive cfg b).bitmap = s.bitmap := rfl

@[simp] theorem State.receive_writtenCount (cfg : Config) (b : Byte) : (s.receive cfg b).writtenCount = s.writtenCount := rfl

@[simp] theorem State.receive_ackCount (cfg : Config) (b : Byte) : (s.receive cfg b).ackCount = s.ackCount := rfl

@[simp] theorem State.receive_wdt (cfg : Config) (b : Byte) : (s.receive cfg b).wdt = s.wdt := rfl

@[simp] theorem State.receive_h2t (cfg : Config) (b : Byte) : (s.receive cfg b).h2t = s.h2t := rfl

@[simp] theorem State.receive_t2h (cfg : Config) (b : Byte) : (s.receive cfg b).t2h = push cfg.t2hCap s.t2h b := rfl

@[simp] theorem State.receive_txBuf (cfg : Config) (b : Byte) : (s.receive cfg b).txBuf = s.txBuf := rfl

@[simp] theorem State.receive_resetLine (cfg : Config) (b : Byte) : (s.receive cfg b).resetLine = s.resetLine := rfl

@[simp] theorem State.receive_serOut (cfg : Config) (b : Byte) : (s.receive cfg b).serOut = s.serOut := rfl

@[simp] theorem State.receive_hidOut (cfg : Config) (b : Byte) : (s.receive cfg b).hidOut = s.hidOut := rfl

@[simp] theorem State.receive_sysOut (cfg : Config) (b : Byte) : (s.receive cfg b).sysOut = s.sysOut := rfl

@[simp] theorem State.receive_mscReply (cfg : Config) (b : Byte) : (s.receive cfg b).mscReply = s.mscReply := rfl

@[simp] theorem State.receive_events (cfg : Config) (b : Byte) : (s.receive cfg b).events = s.events := rfl

/-! ### complete -/

@[simp] theorem State.complete_upc : s.complete.upc = s.upc := rfl

@[simp] theorem State.complete_ci : s.complete.ci = s.ci := rfl

@[simp] theorem State.complete_blkData : s.complete.blkData = s.blkData := rfl

@[simp] theorem State.complete_chunkBuf : s.complete.chunkBuf = s.chunkBuf := rfl

@[simp] theorem State.complete_wordAddr : s.complete.wordAddr = s.wordAddr := rfl

@[simp] theorem State.complete_pagesPending : s.complete.pagesPending = s.pagesPending := rfl

@[simp] theorem State.complete_inert : s.complete.inert = s.inert := rfl

@[simp] theorem State.complete_started : s.complete.started = s.started := rfl

@[simp] theorem State.complete_flushPending : s.complete.flushPending = s.flushPending := rfl

@[simp] theorem State.complete_expCount : s.complete.expCount = s.expCount := rfl

@[simp] theorem State.complete_bitmap : s.complete.bitmap = s.bitmap := rfl

@[simp] theorem State.complete_writtenCount : s.complete.writtenCount = 0 := rfl

@[simp] theorem State.complete_ackCount : s.complete.ackCount = s.ackCount := rfl

@[simp] theorem State.complete_wdt : s.complete.wdt = .done := rfl

@[simp] theorem State.complete_h2t : s.complete.h2t = s.h2t := rfl

@[simp] theorem State.complete_t2h : s.complete.t2h = s.t2h := rfl

@[simp] theorem State.complete_txBuf : s.complete.txBuf = s.txBuf := rfl

@[simp] theorem State.complete_resetLine : s.complete.resetLine = .released := rfl

@[simp] theorem State.complete_serOut : s.complete.serOut = s.serOut ++ [SerEvent.resetFinish] := rfl

@[simp] theorem State.complete_hidOut : s.complete.hidOut = s.hidOut := rfl

@[simp] theorem State.complete_sysOut : s.complete.sysOut = s.sysOut := rfl

@[simp] theorem State.complete_mscReply : s.complete.mscReply = s.mscReply := rfl

@[simp] theorem State.complete_events : s.complete.events = s.events := rfl

/-! ### inertHeader -/

@[simp] theorem State.inertHeader_upc (c : List Byte) : (s.inertHeader c).upc = s.upc := rfl

@[simp] theorem State.inertHeader_ci (c : List Byte) : (s.inertHeader c).ci = 1 := rfl

@[simp] theorem State.inertHeader_blkData (c : List Byte) : (s.inertHeader c).blkData = s.blkData := rfl

@[simp] theorem State.inertHeader_chunkBuf (c : List Byte) : (s.inertHeader c).chunkBuf = c := rfl

@[simp] theorem State.inertHeader_wordAddr (c : List Byte) : (s.inertHeader c).wordAddr = s.wordAddr := rfl

@[simp] theorem State.inertHeader_pagesPending (c : List Byte) : (s.inertHeader c).pagesPending = s.pagesPending := rfl

@[simp] theorem State.inertHeader_inert (c : List Byte) : (s.inertHeader c).inert = true := rfl

@[simp] theorem State.inertHeader_started (c : List Byte) : (s.inertHeader c).started = s.started := rfl

@[simp] theorem State.inertHeader_flushPending (c : List Byte) : (s.inertHeader c).flushPending = s.flushPending := rfl

@[simp] theorem State.inertHeader_expCount (c : List Byte) : (s.inertHeader c).expCount = s.expCount := rfl

@[simp] theorem State.inertHeader_bitmap (c : List Byte) : (s.inertHeader c).bitmap = s.bitmap := rfl

@[simp] theorem State.inertHeader_writtenCount (c : List Byte) : (s.inertHeader c).writtenCount = s.writtenCount := rfl

@[simp] theorem State.inertHeader_ackCount (c : List Byte) : (s.inertHeader c).ackCount = s.ackCount := rfl

@[simp] theorem State.inertHeader_wdt (c : List Byte) : (s.inertHeader c).wdt = s.wdt := rfl

@[simp] theorem State.inertHeader_h2t (c : List Byte) : (s.inertHeader c).h2t = s.h2t := rfl

@[simp] theorem State.inertHeader_t2h (c : List Byte) : (s.inertHeader c).t2h = s.t2h := rfl

@[simp] theorem State.inertHeader_txBuf (c : List Byte) : (s.inertHeader c).txBuf = s.txBuf := rfl

@[simp] theorem State.inertHeader_resetLine (c : List Byte) : (s.inertHeader c).resetLine = s.resetLine := rfl

@[simp] theorem State.inertHeader_serOut (c : List Byte) : (s.inertHeader c).serOut = s.serOut := rfl

@[simp] theorem State.inertHeader_hidOut (c : List Byte) : (s.inertHeader c).hidOut = s.hidOut := rfl

@[simp] theorem State.inertHeader_sysOut (c : List Byte) : (s.inertHeader c).sysOut = s.sysOut := rfl

@[simp] theorem State.inertHeader_mscReply (c : List Byte) : (s.inertHeader c).mscReply = s.mscReply := rfl

@[simp] theorem State.inertHeader_events (c : List Byte) : (s.inertHeader c).events = s.events := rfl

/-! ### answerRead -/

@[simp] theorem State.answerRead_upc (bs : List Byte) : (s.answerRead bs).upc = s.upc := rfl

@[simp] theorem State.answerRead_ci (bs : List Byte) : (s.answerRead bs).ci = s.ci := rfl

@[simp] theorem State.answerRead_blkData (bs : List Byte) : (s.answerRead bs).blkData = s.blkData := rfl

@[simp] theorem State.answerRead_chunkBuf (bs : List Byte) : (s.answerRead bs).chunkBuf = s.chunkBuf := rfl

@[simp] theorem State.answerRead_wordAddr (bs : List Byte) : (s.answerRead bs).wordAddr = s.wordAddr := rfl

@[simp] theorem State.answerRead_pagesPending (bs : List Byte) : (s.answerRead bs).pagesPending = s.pagesPending := rfl

@[simp] theorem State.answerRead_inert (bs : List Byte) : (s.answerRead bs).inert = s.inert := rfl

@[simp] theorem State.answerRead_started (bs : List Byte) : (s.answerRead bs).started = s.started := rfl

@[simp] theorem State.answerRead_flushPending (bs : List Byte) : (s.answerRead bs).flushPending = s.flushPending := rfl

@[simp] theorem State.answerRead_expCount (bs : List Byte) : (s.answerRead bs).expCount = s.expCount := rfl

@[simp] theorem State.answerRead_bitmap (bs : List Byte) : (s.answerRead bs).bitmap = s.bitmap := rfl

@[simp] theorem State.answerRead_writtenCount (bs : List Byte) : (s.answerRead bs).writtenCount = s.writtenCount := rfl

@[simp] theorem State.answerRead_ackCount (bs : List Byte) : (s.answerRead bs).ackCount = s.ackCount := rfl

@[simp] theorem State.answerRead_wdt (bs : List Byte) : (s.answerRead bs).wdt = s.wdt := rfl

@[simp] theorem State.answerRead_h2t (bs : List Byte) : (s.answerRead bs).h2t = s.h2t := rfl

@[simp] theorem State.answerRead_t2h (bs : List Byte) : (s.answerRead bs).t2h = s.t2h := rfl

@[simp] theorem State.answerRead_txBuf (bs : List Byte) : (s.answerRead bs).txBuf = s.txBuf := rfl

@[simp] theorem State.answerRead_resetLine (bs : List Byte) : (s.answerRead bs).resetLine = s.resetLine := rfl

@[simp] theorem State.answerRead_serOut (bs : List Byte) : (s.answerRead bs).serOut = s.serOut := rfl

@[simp] theorem State.answerRead_hidOut (bs : List Byte) : (s.answerRead bs).hidOut = s.hidOut := rfl

@[simp] theorem State.answerRead_sysOut (bs : List Byte) : (s.answerRead bs).sysOut = s.sysOut := rfl

@[simp] theorem State.answerRead_mscReply (bs : List Byte) : (s.answerRead bs).mscReply = some bs := rfl

@[simp] theorem State.answerRead_events (bs : List Byte) : (s.answerRead bs).events = s.events := rfl

/-! ### reboot -/

@[simp] theorem State.reboot_upc (cause : Cause) : (s.reboot cause).upc = .idle := rfl

@[simp] theorem State.reboot_ci (cause : Cause) : (s.reboot cause).ci = 0 := rfl

@[simp] theorem State.reboot_blkData (cause : Cause) : (s.reboot cause).blkData = none := rfl

@[simp] theorem State.reboot_chunkBuf (cause : Cause) : (s.reboot cause).chunkBuf = zeros 16 := rfl

@[simp] theorem State.reboot_wordAddr (cause : Cause) : (s.reboot cause).wordAddr = 0 := rfl

@[simp] theorem State.reboot_pagesPending (cause : Cause) : (s.reboot cause).pagesPending = 0 := rfl

@[simp] theorem State.reboot_inert (cause : Cause) : (s.reboot cause).inert = false := rfl

@[simp] theorem State.reboot_started (cause : Cause) : (s.reboot cause).started = false := rfl

@[simp] theorem State.reboot_flushPending (cause : Cause) : (s.reboot cause).flushPending = false := rfl

@[simp] theorem State.reboot_expCount (cause : Cause) : (s.reboot cause).expCount = Config.device.unset := rfl

@[simp] theorem State.reboot_bitmap (cause : Cause) : (s.reboot cause).bitmap = 0 := rfl

@[simp] theorem State.reboot_writtenCount (cause : Cause) : (s.reboot cause).writtenCount = 0 := rfl

@[simp] theorem State.reboot_ackCount (cause : Cause) : (s.reboot cause).ackCount = 0 := rfl

@[simp] theorem State.reboot_wdt (cause : Cause) : (s.reboot cause).wdt = .off := rfl

@[simp] theorem State.reboot_h2t (cause : Cause) : (s.reboot cause).h2t = [] := rfl

@[simp] theorem State.reboot_t2h (cause : Cause) : (s.reboot cause).t2h = [] := rfl

@[simp] theorem State.reboot_txBuf (cause : Cause) : (s.reboot cause).txBuf = zeros 64 := rfl

@[simp] theorem State.reboot_resetLine (cause : Cause) : (s.reboot cause).resetLine = .released := rfl

@[simp] theorem State.reboot_serOut (cause : Cause) : (s.reboot cause).serOut = s.serOut := rfl

@[simp] theorem State.reboot_hidOut (cause : Cause) : (s.reboot cause).hidOut = s.hidOut := rfl

@[simp] theorem State.reboot_sysOut (cause : Cause) : (s.reboot cause).sysOut = s.sysOut ++ [cause] := rfl

@[simp] theorem State.reboot_mscReply (cause : Cause) : (s.reboot cause).mscReply = s.mscReply := rfl

@[simp] theorem State.reboot_events (cause : Cause) : (s.reboot cause).events = s.events := rfl

end Sys2Proof.Machine
end

