-- ==== Sys2Proof/Laws/Ops.lean ====
section
/-! SUPPORT. What each shared operation can do, once: the enabling of an operation, the rings, the packet buffer, the
bitmap, the environment's events and the fetch. -/

namespace Sys2Proof.Machine

/-! ### Enabling -/

@[simp] theorem whenEnabled_true (s t : State) : whenEnabled true s t = .next t := rfl

@[simp] theorem whenEnabled_false (s t : State) : whenEnabled false s t = .next s := rfl

/-- An operation under `whenEnabled` answers its own next state, or leaves the state as it was. -/
theorem whenEnabled_cases {en : Bool} {s t u : State} (h : whenEnabled en s t = .next u) :
    (en = true ∧ u = t) ∨ (en = false ∧ u = s) := by
  cases en <;> simp_all [whenEnabled]

/-! ### The watchdog -/

theorem armHandshake_ne_off (w : Wdt) : armHandshake w ≠ .off := by cases w <;> decide

theorem endHandshake_ne_hs (w : Wdt) : endHandshake w ≠ .hs := by cases w <;> decide

theorem armHandshake_done_iff (w : Wdt) : armHandshake w = .done ↔ w = .done := by cases w <;> decide

theorem endHandshake_done_iff (w : Wdt) : endHandshake w = .done ↔ w = .done := by cases w <;> decide

/-! ### The rings -/

/-- A push keeps a ring within its capacity (R36, R38). -/
theorem push_length_le {cap : Nat} {r : List Byte} (b : Byte) (h : r.length ≤ cap) : (push cap r b).length ≤ cap := by
  unfold push
  split
  · simp; omega
  · exact h

/-- Pushing bytes in order appends them until the ring is full; the rest are dropped (R38). -/
theorem pushAll_eq_take {cap : Nat} {r : List Byte} (bs : List Byte) (h : r.length ≤ cap) :
    pushAll cap r bs = (r ++ bs).take cap := by
  induction bs generalizing r with
  | nil => simp [pushAll, List.take_of_length_le h]
  | cons b bs ih =>
    have hstep : pushAll cap r (b :: bs) = pushAll cap (push cap r b) bs := rfl
    rw [hstep, ih (push_length_le b h)]
    unfold push
    split
    · simp
    · have hr : r.length = cap := by omega
      simp [← hr]

/-- Pushing bytes keeps a ring within its capacity. -/
theorem pushAll_length_le {cap : Nat} {r : List Byte} (bs : List Byte) (h : r.length ≤ cap) :
    (pushAll cap r bs).length ≤ cap := by
  rw [pushAll_eq_take bs h]; simp

/-! ### The packet buffer -/

/-- The buffer after `done` has been appended: the count, the bytes, zeros. -/
theorem foldl_appendReply (rest : List Byte) : ∀ done : List Byte, (done ++ rest).length ≤ 63 →
    rest.foldl appendReply (BitVec.ofNat 8 done.length :: (done ++ zeros (63 - done.length)))
      = BitVec.ofNat 8 (done ++ rest).length :: (done ++ rest ++ zeros (63 - (done ++ rest).length)) := by
  induction rest with
  | nil => intro done _; simp
  | cons b rest ih =>
    intro done h
    have hlen : done.length < 63 := by simp at h; omega
    have hpad : zeros (63 - done.length) = 0 :: zeros (63 - (done.length + 1)) := by
      rw [show 63 - done.length = (63 - (done.length + 1)) + 1 by omega]; rfl
    have hn : (BitVec.ofNat 8 done.length + 1#8) = BitVec.ofNat 8 (done.length + 1) := by
      simp [BitVec.ofNat_add]
    have hnat : (BitVec.ofNat 8 (done.length + 1)).toNat = done.length + 1 := by
      simp; omega
    have hstep : appendReply (BitVec.ofNat 8 done.length :: (done ++ zeros (63 - done.length))) b
        = BitVec.ofNat 8 (done ++ [b]).length :: ((done ++ [b]) ++ zeros (63 - (done ++ [b]).length)) := by
      rw [hpad]
      simp only [appendReply, byteAt_cons_zero]
      rw [show (BitVec.ofNat 8 done.length + 1 : Byte) = BitVec.ofNat 8 (done.length + 1) from hn]
      simp only [List.set_cons_zero, hnat, List.set_cons_succ]
      simp
    rw [List.foldl_cons, hstep, ih (done ++ [b]) (by simpa using h)]
    simp

/-- Assembly leaves the count, the reply bytes and zero padding (R233). -/
theorem assembleReply_eq (body : List Byte) (h : body.length ≤ 63) :
    assembleReply Config.device body = BitVec.ofNat 8 body.length :: (body ++ zeros (63 - body.length)) := by
  have := foldl_appendReply body [] (by simpa using h)
  simpa [assembleReply, zeros] using this

/-- A flushed reply is a framed packet: the same form as a relay packet (R108, R109, `90_conflicts.md` C6). -/
theorem flush_assembleReply (body : List Byte) (h : body.length ≤ 63) :
    flushReply Config.device (assembleReply Config.device body) = framedPacket Config.device body := by
  have hb : ∀ n : Nat, n ≤ 63 → (BitVec.ofNat 8 n ||| Config.device.hidFlag : Byte) = framingByte Config.device (BitVec.ofNat 7 n) := by
    decide
  rw [assembleReply_eq body h, flushReply, byteAt_cons_zero, hb _ h]
  simp [framedPacket]

/-! ### The first page's reset and the bitmap -/

/-- The first page resets the target, any other leaves the state (R191). -/
theorem ensureStarted_eq (s : State) : s.ensureStarted =
    { s with
      started := true
      resetLine := if s.started then s.resetLine else .released
      serOut := s.serOut ++ (if s.started then [] else [SerEvent.resetStart]) } := by
  unfold State.ensureStarted State.resetTarget State.out
  cases s
  split <;> simp_all

/-- Setting a bit of the bitmap changes that bit and no other (R136). -/
theorem setBit_getLsbD (b : BitVec 256) (i j : Nat) (h : i < 256) :
    (setBit b i).getLsbD j = (b.getLsbD j || decide (j = i)) := by
  by_cases hj : j < 256
  · simp [setBit, hj]
    grind
  · rw [BitVec.getLsbD_of_ge _ _ (by omega), BitVec.getLsbD_of_ge _ _ (by omega)]
    simp
    omega

/-! ### What each composed operation does, field by field -/

/-- A handshake clears the counter, bounds the wait, sends the synchronization byte and waits (R200). -/
theorem handshake_eq (k : Upc) (s : State) : s.handshake Config.device k =
    { s with
      ackCount := 0
      wdt := armHandshake s.wdt
      serOut := s.serOut ++ [.tx 0x20]
      upc := k } := rfl

/-- Opening a page (R141, R191, R192). -/
theorem openPage_eq (s : State) : s.openPage Config.device =
    { s with
      started := true
      resetLine := if s.started then s.resetLine else .released
      serOut := s.serOut ++ (if s.started then [] else [SerEvent.resetStart])
        ++ [.tx 0x55, .tx (s.wordAddr.extractLsb' 0 8), .tx (s.wordAddr.extractLsb' 8 8), .tx 0x20]
      ackCount := 0
      wdt := armHandshake s.wdt
      upc := .waitLa } := by
  unfold State.openPage
  rw [handshake_eq, ensureStarted_eq]
  simp [State.txAll, loadAddressBytes, bytesLE16]

/-- After the load-address acknowledgment (R193), where a page is more than one chunk. -/
theorem programPage_eq (s : State) : s.programPage Config.device =
    { s with
      wdt := endHandshake s.wdt
      serOut := s.serOut ++ [.tx 0x64, .tx 0x00, .tx 0x80, .tx 0x20] ++ s.chunkBuf.map SerEvent.tx
      ci := s.ci + 1
      upc := .blk } := by
  unfold State.programPage
  simp [State.endWait, State.txAll, State.nextChunk, progPageBytes, bytesBE16]

/-- After the page-commit acknowledgment (R195). -/
theorem commitPage_eq (s : State) : s.commitPage Config.device =
    { s with
      wdt := endHandshake s.wdt
      pagesPending := s.pagesPending - 1
      wordAddr := s.wordAddr + 64
      ci := s.ci + 1
      upc := .blk } := rfl

/-- Completion (R140). -/
theorem complete_eq (s : State) : s.complete =
    { s with
      writtenCount := 0
      serOut := s.serOut ++ [.resetFinish]
      resetLine := .released
      wdt := .done } := rfl

/-- A reply of at most 63 bytes goes out as a framed packet (R233, R234). -/
theorem sendReply_eq (body : List Byte) (h : body.length ≤ 63) (s : State) :
    s.sendReply Config.device body = s.hidSend (framedPacket Config.device body) := by
  rw [State.sendReply, flush_assembleReply body h]

/-- A relay sends up to 63 bytes of `t2h` in one framed packet (R240). -/
theorem relayOut_eq (s : State) : s.relayOut Config.device =
    { s with
      txBuf := framedPacket Config.device (s.t2h.take (min 63 s.t2h.length))
      hidOut := s.hidOut ++ [framedPacket Config.device (s.t2h.take (min 63 s.t2h.length))]
      t2h := s.t2h.drop (min 63 s.t2h.length)
      flushPending := decide (s.t2h.drop (min 63 s.t2h.length) ≠ []) } := rfl

/-! ### The environment's events -/

@[simp] theorem nextEvent_nil (busy : Bool) : nextEvent busy [] = none := rfl

/-- Between tasks the first event is next. -/
@[simp] theorem nextEvent_idle (e : Event) (es : List Event) : nextEvent false (e :: es) = some (e, es) := rfl

/-- An event that does not wait is next, whatever the position. -/
theorem nextEvent_of_not_waits (busy : Bool) {e : Event} (es : List Event) (h : e.waits = false) :
    nextEvent busy (e :: es) = some (e, es) := by
  simp [nextEvent, h]

/-- The next event and the events left are the events there were. -/
theorem nextEvent_mem {busy : Bool} {es : List Event} {e : Event} {rest : List Event}
    (h : nextEvent busy es = some (e, rest)) : e ∈ es ∧ ∀ x ∈ rest, x ∈ es := by
  induction es generalizing e rest with
  | nil => simp at h
  | cons a as ih =>
    unfold nextEvent at h
    split at h
    · split at h
      · rename_i f r hr
        obtain ⟨rfl, rfl⟩ : f = e ∧ a :: r = rest := by simpa using h
        obtain ⟨h1, h2⟩ := ih hr
        exact ⟨List.mem_cons_of_mem _ h1, by simpa using fun x hx => Or.inr (h2 x hx)⟩
      · simp at h
    · obtain ⟨rfl, rfl⟩ : a = e ∧ as = rest := by simpa using h
      exact ⟨List.mem_cons_self, fun x hx => List.mem_cons_of_mem _ hx⟩

/-- While a block is in flight no host transaction is next (R23, R71). -/
theorem nextEvent_busy_not_waits {es : List Event} {e : Event} {rest : List Event}
    (h : nextEvent true es = some (e, rest)) : e.waits = false := by
  induction es generalizing e rest with
  | nil => simp at h
  | cons a as ih =>
    unfold nextEvent at h
    split at h
    · split at h
      · rename_i f r hr
        obtain ⟨rfl, rfl⟩ : f = e ∧ a :: r = rest := by simpa using h
        exact ih hr
      · simp at h
    · rename_i hn
      obtain ⟨rfl, rfl⟩ : a = e ∧ as = rest := by simpa using h
      simpa using hn

/-- While a block is in flight the waiting host transactions stay, in order, whatever event is next (R23, R71). -/
theorem nextEvent_busy_keeps_waiting {es : List Event} {e : Event} {rest : List Event}
    (h : nextEvent true es = some (e, rest)) : rest.filter Event.waits = es.filter Event.waits := by
  induction es generalizing e rest with
  | nil => simp at h
  | cons a as ih =>
    unfold nextEvent at h
    split at h
    · split at h
      · rename_i f r hr
        obtain ⟨rfl, rfl⟩ : f = e ∧ a :: r = rest := by simpa using h
        simp [List.filter_cons, ih hr]
      · simp at h
    · rename_i hn
      obtain ⟨rfl, rfl⟩ : a = e ∧ as = rest := by simpa using h
      simp only [Bool.true_and, Bool.not_eq_true] at hn
      simp [hn]

/-! ### One step -/

/-- What a step can do: run the instruction its unit decodes to, or poll. -/
theorem step_cases {s t : State} (h : step s = .next t) :
    (∃ u r i, fetch Config.device s = .run u r ∧ decode u.port u.bytes = .ok i ∧ exec i r = .next t)
      ∨ fetch Config.device s = .poll t := by
  unfold step runTurn at h
  split at h
  · rename_i u r hf
    split at h
    · rename_i i hi; exact .inl ⟨u, r, i, hf, hi, h⟩
    · cases h
  · rename_i r hf
    obtain rfl : r = t := by simpa using h
    exact .inr hf
  · cases h

end Sys2Proof.Machine
end

