-- ==== Sys2Proof/Laws/Fetch.lean ====
section
/-! SUPPORT. What the fetch of a step can answer, once: which unit, and in which state; and how steps compose. -/

namespace Sys2Proof.Machine

/-- The sequencer's own turn runs in the state as it is: a chunk of the block in flight, its end, or the continuation of
an acknowledged wait (R131, R193, R195). -/
theorem sequencerTurn_run {s r : State} {u : Presented} (h : sequencerTurn Config.device s = .run u r) :
    r = s ∧
      ((∃ d, s.upc = .blk ∧ s.blkData = some d ∧
          ((s.ci.toNat = 0 ∧ u = ⟨.header, chunkOf Config.device d 0⟩)
            ∨ (s.ci.toNat = 1 ∧ u = ⟨.metadata, chunkOf Config.device d 1⟩)
            ∨ (2 ≤ s.ci.toNat ∧ s.ci.toNat < 32
                ∧ u = ⟨.payload (s.payloadForm Config.device), chunkOf Config.device d s.ci.toNat⟩)
            ∨ (s.ci.toNat = 32 ∧ u = ⟨.blockEnd, []⟩)))
        ∨ (s.acked .waitLa = true ∧ u = ⟨.ackedLa, []⟩)
        ∨ (s.acked .waitPg = true ∧ u = ⟨.ackedPg, []⟩)) := by
  unfold sequencerTurn at h
  split at h
  · cases h
  · split at h
    · rename_i hu _ d hd
      unfold chunkTurn at h
      simp only at h
      split at h
      · cases h; refine ⟨rfl, .inl ⟨d, hu, hd, ?_⟩⟩; simp_all
      split at h
      · cases h; refine ⟨rfl, .inl ⟨d, hu, hd, ?_⟩⟩; simp_all
      split at h
      · rename_i h0 h1 h2
        rw [Config.device_nchunk] at h2
        cases h; exact ⟨rfl, .inl ⟨d, hu, hd, .inr (.inr (.inl ⟨by omega, h2, rfl⟩))⟩⟩
      split at h
      · cases h; refine ⟨rfl, .inl ⟨d, hu, hd, ?_⟩⟩; simp_all
      · cases h
    · cases h
  · split at h <;> cases h; simp_all
  · split at h <;> cases h; simp_all

/-- A polling sequencer leaves the state as it is. -/
theorem sequencerTurn_poll {s t : State} (h : sequencerTurn Config.device s = .poll t) : t = s := by
  unfold sequencerTurn at h
  split at h
  · cases h; rfl
  · split at h
    · unfold chunkTurn at h; simp only at h; (repeat' split at h) <;> cases h
    · cases h
  · split at h <;> cases h; rfl
  · split at h <;> cases h; rfl

/-- An event's turn runs in the state without the event, otherwise unchanged. -/
theorem eventTurn_run {s r : State} {e : Event} {u : Presented} (h : eventTurn Config.device e s = .run u r) :
    r = s := by
  unfold eventTurn at h
  split at h <;> first | (cases h; rfl) | exact (sequencerTurn_run h).1

/-- The fetch changes nothing but the events, and adds none. -/
theorem fetch_run_state {s r : State} {u : Presented} (h : fetch Config.device s = .run u r) :
    ∃ ev, r = { s with events := ev } ∧ ∀ e ∈ ev, e ∈ s.events := by
  unfold fetch at h
  split at h
  · rename_i e rest hn
    exact ⟨rest, eventTurn_run h, (nextEvent_mem hn).2⟩
  · exact ⟨s.events, (sequencerTurn_run h).1, by simp⟩

/-- A fetch that polls changes nothing but the events, and adds none. -/
theorem fetch_poll_state {s t : State} (h : fetch Config.device s = .poll t) :
    ∃ ev, t = { s with events := ev } ∧ ∀ e ∈ ev, e ∈ s.events := by
  unfold fetch at h
  split at h
  · rename_i e rest hn
    refine ⟨rest, ?_, (nextEvent_mem hn).2⟩
    unfold eventTurn at h
    split at h <;> first | cases h | exact sequencerTurn_poll h
  · exact ⟨s.events, sequencerTurn_poll h, by simp⟩

/-- The sequencer's own turn is no emitted unit. -/
theorem sequencerTurn_not_emitted {s r : State} {u : Presented} (h : sequencerTurn Config.device s = .run u r)
    (p : UnitPort) : u.port ≠ .emitted p := by
  obtain ⟨_, ⟨d, _, _, h⟩ | ⟨_, h⟩ | ⟨_, h⟩⟩ := sequencerTurn_run h
  · rcases h with ⟨_, rfl⟩ | ⟨_, rfl⟩ | ⟨_, _, rfl⟩ | ⟨_, rfl⟩ <;> simp
  · rw [h]; simp
  · rw [h]; simp

/-- On events of the spec no fetch presents an emitted unit. -/
theorem fetch_not_emitted {s r : State} {u : Presented} (ho : ∀ e ∈ s.events, e.offered = true)
    (h : fetch Config.device s = .run u r) (p : UnitPort) : u.port ≠ .emitted p := by
  unfold fetch at h
  split at h
  · rename_i e rest hn
    have he := ho e (nextEvent_mem hn).1
    unfold eventTurn at h
    split at h <;>
      first
      | exact sequencerTurn_not_emitted h p
      | (cases h; simp; done)
      | simp [Event.offered] at he
  · exact sequencerTurn_not_emitted h p

/-! ### Several steps -/

@[simp] theorem steps_zero (s : State) : steps 0 s = .next s := rfl

/-- The first step of several. -/
theorem steps_succ {s t : State} (k : Nat) (h : step s = .next t) : steps (k + 1) s = steps k t := by
  simp [steps, h]

/-- Steps after steps. -/
theorem steps_add {a : Nat} {s t : State} (b : Nat) (h : steps a s = .next t) : steps (a + b) s = steps b t := by
  induction a generalizing s with
  | zero => cases h; simp
  | succ a ih =>
    rw [show a + 1 + b = (a + b) + 1 by omega]
    simp only [steps] at h ⊢
    split at h
    · exact ih h
    · cases h
    · cases h

end Sys2Proof.Machine
end

