-- ==== Sys2Proof/Laws/Guards.lean ====
section
/-! SUPPORT. What each enabling condition and flag test says, as propositions about the fields (device configuration). -/

namespace Sys2Proof.Machine

variable (s : State)

theorem isIdle_iff : s.isIdle = true ↔ s.upc = .idle := by simp [State.isIdle]

theorem atHeader_iff : s.atHeader = true ↔ s.upc = .blk ∧ s.ci.toNat = 0 := by simp [State.atHeader]

theorem atMetadata_iff : s.atMetadata = true ↔ s.upc = .blk ∧ s.ci.toNat = 1 := by simp [State.atMetadata]

theorem atPayload_iff : s.atPayload Config.device = true ↔ s.upc = .blk ∧ 2 ≤ s.ci.toNat ∧ s.ci.toNat < 32 := by
  simp only [State.atPayload, Bool.and_eq_true, decide_eq_true_eq, and_assoc]
  simp

theorem atEnd_iff : s.atEnd Config.device = true ↔ s.upc = .blk ∧ s.ci.toNat = 32 := by
  simp only [State.atEnd, Bool.and_eq_true, decide_eq_true_eq]
  simp

theorem programs_iff : s.programs = true ↔ s.inert = false ∧ s.pagesPending ≠ 0 := by
  simp only [State.programs, Bool.and_eq_true, Bool.not_eq_true', decide_eq_true_eq]

theorem acked_iff (k : Upc) : s.acked k = true ↔ s.upc = k ∧ s.ackCount ≠ 0 := by
  simp only [State.acked, Bool.and_eq_true, decide_eq_true_eq]

theorem canRelay_iff : s.canRelay = true ↔ s.upc = .idle ∧ s.flushPending = true ∧ s.t2h ≠ [] := by
  simp only [State.canRelay, State.isIdle, Bool.and_eq_true, decide_eq_true_eq, and_assoc]

theorem canDrain_iff : s.canDrain = true ↔ s.upc = .idle ∧ s.h2t ≠ [] := by
  simp only [State.canDrain, State.isIdle, Bool.and_eq_true, decide_eq_true_eq]

/-- The page position of the device: `(ci - 2) mod 8` (R138). -/
theorem pagePos_device (ci : BitVec 6) : pagePos Config.device ci = (ci.toNat - 2) % 8 := by simp [pagePos]

/-- A skipped payload chunk (R137). -/
theorem due_skip_iff : s.payloadDue Config.device .skip = true ↔
    (s.upc = .blk ∧ 2 ≤ s.ci.toNat ∧ s.ci.toNat < 32) ∧ s.programs = false := by
  simp only [State.payloadDue, Bool.and_eq_true, atPayload_iff, State.payloadForm]
  split
  · simp_all
  · split
    · simp_all
    · split <;> simp_all

/-- The chunk that opens a page (R141). -/
theorem due_first_iff : s.payloadDue Config.device .first = true ↔
    (s.upc = .blk ∧ 2 ≤ s.ci.toNat ∧ s.ci.toNat < 32) ∧ s.programs = true ∧ (s.ci.toNat - 2) % 8 = 0 := by
  simp only [State.payloadDue, Bool.and_eq_true, decide_eq_true_eq, atPayload_iff, State.payloadForm, pagePos_device]
  split
  · simp_all
  · split
    · simp_all
    · split <;> simp_all

/-- A chunk inside a page (R142). -/
theorem due_mid_iff : s.payloadDue Config.device .mid = true ↔
    (s.upc = .blk ∧ 2 ≤ s.ci.toNat ∧ s.ci.toNat < 32) ∧ s.programs = true
      ∧ (s.ci.toNat - 2) % 8 ≠ 0 ∧ (s.ci.toNat - 2) % 8 ≠ 7 := by
  simp only [State.payloadDue, Bool.and_eq_true, decide_eq_true_eq, atPayload_iff, State.payloadForm, pagePos_device]
  split
  · simp_all
  · split
    · simp_all
    · split <;> simp_all

/-- The chunk that completes a page (R143). -/
theorem due_last_iff : s.payloadDue Config.device .last = true ↔
    (s.upc = .blk ∧ 2 ≤ s.ci.toNat ∧ s.ci.toNat < 32) ∧ s.programs = true ∧ (s.ci.toNat - 2) % 8 = 7 := by
  simp only [State.payloadDue, Bool.and_eq_true, decide_eq_true_eq, atPayload_iff, State.payloadForm, pagePos_device]
  split
  · simp_all
  · split
    · simp_all
    · split <;> simp_all

/-- The completion test (R139). -/
theorem completes_iff : s.completes Config.device = true ↔
    s.inert = false ∧ s.expCount ≠ 0 ∧ s.expCount ≠ 0xFFFFFFFF ∧ s.expCount.toNat ≤ s.writtenCount.toNat := by
  simp only [State.completes, isConcrete, Bool.and_eq_true, Bool.not_eq_true', decide_eq_true_eq, and_assoc]
  simp

/-- An index that is counted (R136). -/
theorem isFresh_iff (bitmap : BitVec 256) (i : BitVec 32) :
    isFresh Config.device bitmap i = true ↔ i.toNat < 256 ∧ bitmap.getLsbD i.toNat = false := by
  simp only [isFresh, Bool.and_eq_true, Bool.not_eq_true', decide_eq_true_eq]
  simp

/-- An operation that its own condition enables is what `enabled` says (R92). -/
theorem enabled_wdtExpire_iff : enabled .wdtExpire s = true ↔ s.wdt ≠ .off := by
  simp only [enabled, decide_eq_true_eq]

end Sys2Proof.Machine
end

