-- ==== Sys2Proof/Laws/WellFormed.lean ====
section
/-! SUPPORT. What well-formedness says of each instruction with operands, as propositions (device configuration). -/

namespace Sys2Proof

theorem wf_wrBegin (lba : BitVec 32) (d : List Byte) : (Instr.wrBegin lba d).wf = true ↔ d.length = 512 := by
  simp [Instr.wf, Instr.wfFor]

theorem wf_wrHdrLive (c : List Byte) : (Instr.wrHdrLive c).wf = true ↔
    c.length = 16 ∧ c.take 8 = Config.device.magic ∧ (byteAt c 8).getLsbD 0 = false := by
  simp [Instr.wf, Instr.wfFor, and_assoc]

theorem wf_wrHdrSkip (c : List Byte) : (Instr.wrHdrSkip c).wf = true ↔
    c.length = 16 ∧ c.take 8 = Config.device.magic ∧ (byteAt c 8).getLsbD 0 = true := by
  simp [Instr.wf, Instr.wfFor, and_assoc]

theorem wf_wrHdrNomagic (c : List Byte) : (Instr.wrHdrNomagic c).wf = true ↔
    c.length = 16 ∧ c.take 8 ≠ Config.device.magic := by
  simp [Instr.wf, Instr.wfFor]

theorem wf_wrMeta (c : List Byte) : (Instr.wrMeta c).wf = true ↔ c.length = 16 := by simp [Instr.wf, Instr.wfFor]

theorem wf_wrPayloadSkip (c : List Byte) : (Instr.wrPayloadSkip c).wf = true ↔ c.length = 16 := by
  simp [Instr.wf, Instr.wfFor]

theorem wf_wrPayloadOpen (c : List Byte) : (Instr.wrPayloadOpen c).wf = true ↔ c.length = 16 := by
  simp [Instr.wf, Instr.wfFor]

theorem wf_wrPayloadMid (c : List Byte) : (Instr.wrPayloadMid c).wf = true ↔ c.length = 16 := by simp [Instr.wf, Instr.wfFor]

theorem wf_wrPayloadLast (c : List Byte) : (Instr.wrPayloadLast c).wf = true ↔ c.length = 16 := by
  simp [Instr.wf, Instr.wfFor]

theorem wf_rdFat (lba : BitVec 32) : (Instr.rdFat lba).wf = true ↔ 1 ≤ lba.toNat ∧ lba.toNat < 65 := by
  simp only [Instr.wf, Instr.wfFor, Bool.and_eq_true, decide_eq_true_eq]
  simp

theorem wf_rdRoot (lba : BitVec 32) : (Instr.rdRoot lba).wf = true ↔ 65 ≤ lba.toNat ∧ lba.toNat < 69 := by
  simp only [Instr.wf, Instr.wfFor, Bool.and_eq_true, decide_eq_true_eq]
  simp

theorem wf_rdData (lba : BitVec 32) : (Instr.rdData lba).wf = true ↔ 69 ≤ lba.toNat ∧ lba.toNat < 71 := by
  simp only [Instr.wf, Instr.wfFor, Bool.and_eq_true, decide_eq_true_eq]
  simp

theorem wf_rdZero (lba : BitVec 32) : (Instr.rdZero lba).wf = true ↔ 71 ≤ lba.toNat := by
  simp only [Instr.wf, Instr.wfFor, decide_eq_true_eq]
  simp

theorem wf_hidTunnel (k : BitVec 7) (body : List Byte) : (Instr.hidTunnel k body).wf = true ↔ body.length = 63 := by
  simp [Instr.wf, Instr.wfFor]

theorem wf_hidUnknown (cmd : BitVec 32) (tag : BitVec 16) : (Instr.hidUnknown cmd tag).wf = true ↔
    cmd ≠ 1 ∧ cmd ≠ 2 := by
  simp [Instr.wf, Instr.wfFor]

theorem wf_rxOther (b : Byte) : (Instr.rxOther b).wf = true ↔ b ≠ 0x10 := by simp [Instr.wf, Instr.wfFor]

theorem wf_data (c : List Byte) : (Instr.data c).wf = true ↔ c.length = 16 := by simp [Instr.wf, Instr.wfFor]

theorem wf_reply (body : List Byte) : (Instr.reply body).wf = true ↔ body.length ≤ 63 := by
  simp only [Instr.wf, Instr.wfFor, decide_eq_true_eq]
  simp

theorem wf_relayPacket (body : List Byte) : (Instr.relayPacket body).wf = true ↔
    1 ≤ body.length ∧ body.length ≤ 63 := by
  simp only [Instr.wf, Instr.wfFor, Bool.and_eq_true, decide_eq_true_eq]
  simp

end Sys2Proof
end

