-- ==== Sys2Proof/Laws/PerInstr.lean ====
section
/-! SUPPORT. For each instruction: its encoding has a length that its format has (`30_encoding.md` R90). -/

namespace Sys2Proof.Laws

/-- The lengths of a port's format (R90); the emitted serial commands have three. -/
def formatLengths : Port → List Nat
  | .blockWrite => [516]
  | .header => [16]
  | .metadata => [16]
  | .payload _ => [16]
  | .blockEnd => [0]
  | .ackedLa => [0]
  | .ackedPg => [0]
  | .blockRead => [4]
  | .hidOut => [64]
  | .flushTick => [0]
  | .relay => [0]
  | .drain => [0]
  | .rx => [1]
  | .wdt => [0]
  | .por => [0]
  | .emitted .command => [1, 3, 4]
  | .emitted .data => [16]
  | .emitted .resetLine => [1]
  | .emitted .reply => [64]
  | .emitted .relayPacket => [64]
  | .emitted .system => [1]

/-- A well-formed instruction's encoding has a length of its format. -/
def EncodedLength.Statement (i : Instr) : Prop :=
  i.wf = true → (encode i).bytes.length ∈ formatLengths (encode i).port

namespace EncodedLength

open Instr

theorem wrBegin (lba : BitVec 32) (d : List Byte) : Statement (.wrBegin lba d) := by
  intro h; rw [wf_wrBegin] at h; simp [encode, encodeFor, formatLengths, h]

theorem wrHdrLive (c : List Byte) : Statement (.wrHdrLive c) := by
  intro h; rw [wf_wrHdrLive] at h; simp [encode, encodeFor, formatLengths, h]

theorem wrHdrSkip (c : List Byte) : Statement (.wrHdrSkip c) := by
  intro h; rw [wf_wrHdrSkip] at h; simp [encode, encodeFor, formatLengths, h]

theorem wrHdrNomagic (c : List Byte) : Statement (.wrHdrNomagic c) := by
  intro h; rw [wf_wrHdrNomagic] at h; simp [encode, encodeFor, formatLengths, h]

theorem wrMeta (c : List Byte) : Statement (.wrMeta c) := by
  intro h; rw [wf_wrMeta] at h; simp [encode, encodeFor, formatLengths, h]

theorem wrPayloadSkip (c : List Byte) : Statement (.wrPayloadSkip c) := by
  intro h; rw [wf_wrPayloadSkip] at h; simp [encode, encodeFor, formatLengths, h]

theorem wrPayloadOpen (c : List Byte) : Statement (.wrPayloadOpen c) := by
  intro h; rw [wf_wrPayloadOpen] at h; simp [encode, encodeFor, formatLengths, h]

theorem wrPayloadMid (c : List Byte) : Statement (.wrPayloadMid c) := by
  intro h; rw [wf_wrPayloadMid] at h; simp [encode, encodeFor, formatLengths, h]

theorem wrPayloadLast (c : List Byte) : Statement (.wrPayloadLast c) := by
  intro h; rw [wf_wrPayloadLast] at h; simp [encode, encodeFor, formatLengths, h]

theorem wrEnd : Statement .wrEnd := by intro _; simp [encode, encodeFor, formatLengths]

theorem hsDoneLa : Statement .hsDoneLa := by intro _; simp [encode, encodeFor, formatLengths]

theorem hsDonePg : Statement .hsDonePg := by intro _; simp [encode, encodeFor, formatLengths]

theorem rdBoot : Statement .rdBoot := by intro _; simp [encode, encodeFor, formatLengths]

theorem rdFat (lba : BitVec 32) : Statement (.rdFat lba) := by intro _; simp [encode, encodeFor, formatLengths]

theorem rdRoot (lba : BitVec 32) : Statement (.rdRoot lba) := by intro _; simp [encode, encodeFor, formatLengths]

theorem rdData (lba : BitVec 32) : Statement (.rdData lba) := by intro _; simp [encode, encodeFor, formatLengths]

theorem rdZero (lba : BitVec 32) : Statement (.rdZero lba) := by intro _; simp [encode, encodeFor, formatLengths]

theorem hidTunnel (k : BitVec 7) (body : List Byte) : Statement (.hidTunnel k body) := by
  intro h; rw [wf_hidTunnel] at h; simp [encode, encodeFor, formatLengths, h]

theorem hidBininfo (tag : BitVec 16) : Statement (.hidBininfo tag) := by
  intro _; simp [encode, encodeFor, formatLengths, commandPacket]

theorem hidInfo (tag : BitVec 16) : Statement (.hidInfo tag) := by
  intro _; simp [encode, encodeFor, formatLengths, commandPacket]

theorem hidUnknown (cmd : BitVec 32) (tag : BitVec 16) : Statement (.hidUnknown cmd tag) := by
  intro _; simp [encode, encodeFor, formatLengths, commandPacket]

theorem flushTick : Statement .flushTick := by intro _; simp [encode, encodeFor, formatLengths]

theorem relay : Statement .relay := by intro _; simp [encode, encodeFor, formatLengths]

theorem drain : Statement .drain := by intro _; simp [encode, encodeFor, formatLengths]

theorem rxAck : Statement .rxAck := by intro _; simp [encode, encodeFor, formatLengths]

theorem rxOther (b : Byte) : Statement (.rxOther b) := by intro _; simp [encode, encodeFor, formatLengths]

theorem wdtExpire : Statement .wdtExpire := by intro _; simp [encode, encodeFor, formatLengths]

theorem por : Statement .por := by intro _; simp [encode, encodeFor, formatLengths]

theorem loadAddress (a : BitVec 16) : Statement (.loadAddress a) := by
  intro _; simp [encode, encodeFor, formatLengths, loadAddressBytes]

theorem sync : Statement .sync := by intro _; simp [encode, encodeFor, formatLengths]

theorem progPage (size : BitVec 16) (term : Byte) : Statement (.progPage size term) := by
  intro _; simp [encode, encodeFor, formatLengths, progPageBytes]

theorem data (c : List Byte) : Statement (.data c) := by
  intro h; rw [wf_data] at h; simp [encode, encodeFor, formatLengths, h]

theorem resetStart : Statement .resetStart := by intro _; simp [encode, encodeFor, formatLengths]

theorem resetFinish : Statement .resetFinish := by intro _; simp [encode, encodeFor, formatLengths]

theorem reply (body : List Byte) : Statement (.reply body) := by
  intro h; rw [wf_reply] at h; simp [encode, encodeFor, formatLengths, framedPacket_length body h]

theorem relayPacket (body : List Byte) : Statement (.relayPacket body) := by
  intro h; rw [wf_relayPacket] at h; simp [encode, encodeFor, formatLengths, framedPacket_length body h.2]

theorem reboot (cause : Cause) : Statement (.reboot cause) := by
  intro _; cases cause <;> simp [encode, encodeFor, formatLengths]

end EncodedLength

end Sys2Proof.Laws
end

