-- ==== Sys2Proof/Tests/Slice0.lean ====
section
/-! SUPPORT. Named tests. Expected values come from spec/: the encodings of `30_encoding.md`, the examples of the operation
rules and the vectors V<n>, P<n> of `95_test_vectors.md` (each test names its source), or hand calculation from them. -/

namespace Sys2Proof.Tests

open Sys2Proof Sys2Proof.Machine

/-! ### Helpers -/

/-- The next state, where there is one. -/
def nextOf : Out → Option State
  | .next s => some s
  | .fault _ => none
  | .refused _ => none

/-- What is refused. -/
def refusalOf : Out → Option Refusal
  | .next _ => none
  | .fault _ => none
  | .refused r => some r

/-- What faults. -/
def faultOf : Out → Option Fault
  | .next _ => none
  | .fault f => some f
  | .refused _ => none

/-- V1's header chunk with flag byte `f` and byte 7 of the magic `m`. -/
def header (f m : Byte) : List Byte :=
  [0x55, 0x46, 0x32, 0x0A, 0x57, 0x51, 0x5D, m, f, 0x20, 0x00, 0x00, 0x00, 0x01, 0x00, 0x00]

/-- A metadata chunk: size, index and count in their low bytes. -/
def metadata (size index count : BitVec 32) : List Byte :=
  bytesLE32 size ++ bytesLE32 index ++ bytesLE32 count ++ zeros 4

/-- A payload chunk, `00 01 .. 0F`. -/
def payload : List Byte :=
  [0x00, 0x01, 0x02, 0x03, 0x04, 0x05, 0x06, 0x07, 0x08, 0x09, 0x0A, 0x0B, 0x0C, 0x0D, 0x0E, 0x0F]

/-- A block `UF2(0x0100, 128, 0, 9, zeros)` with flag byte `f` (`30_encoding.md` R122). -/
def block (f : Byte) : List Byte := header f 0x9E ++ metadata 128 0 9 ++ zeros 476 ++ [0x30, 0x6F, 0xB1, 0x0A]

/-- A live block in flight at chunk `c` with two pages pending, the target reset, address 0x0080. -/
def inBlock (c : BitVec 6) : State :=
  { State.reset with upc := .blk, ci := c, blkData := some (block 0), pagesPending := 2, started := true, wordAddr := 0x0080 }

/-- V60's first wait, after an acknowledgment. -/
def inWaitLa : State :=
  { inBlock 2 with upc := .waitLa, chunkBuf := payload, ackCount := 1, wdt := .hs }

/-- A page-commit wait, after an acknowledgment. -/
def inWaitPg : State := { inBlock 9 with upc := .waitPg, ackCount := 1, wdt := .hs }

/-! ### Well-formedness: each check refuses an ill-formed term -/

theorem test_wf_refuses_wrBegin_length : (Instr.wrBegin 100 (zeros 511)).wf = false := by
  set_option maxRecDepth 20000 in decide

theorem test_wf_refuses_wrHdrLive_length : (Instr.wrHdrLive ((header 0 0x9E).take 15)).wf = false := by decide

theorem test_wf_refuses_wrHdrLive_magic : (Instr.wrHdrLive (header 0 0x9F)).wf = false := by decide

theorem test_wf_refuses_wrHdrLive_flag : (Instr.wrHdrLive (header 1 0x9E)).wf = false := by decide

theorem test_wf_refuses_wrHdrSkip_length : (Instr.wrHdrSkip ((header 1 0x9E).take 15)).wf = false := by decide

theorem test_wf_refuses_wrHdrSkip_magic : (Instr.wrHdrSkip (header 1 0x9F)).wf = false := by decide

theorem test_wf_refuses_wrHdrSkip_flag : (Instr.wrHdrSkip (header 0 0x9E)).wf = false := by decide

theorem test_wf_refuses_wrHdrNomagic_length : (Instr.wrHdrNomagic (zeros 17)).wf = false := by decide

theorem test_wf_refuses_wrHdrNomagic_magic : (Instr.wrHdrNomagic (header 0 0x9E)).wf = false := by decide

theorem test_wf_refuses_wrMeta_length : (Instr.wrMeta (zeros 15)).wf = false := by decide

theorem test_wf_refuses_wrPayloadSkip_length : (Instr.wrPayloadSkip (zeros 17)).wf = false := by decide

theorem test_wf_refuses_wrPayloadOpen_length : (Instr.wrPayloadOpen (zeros 15)).wf = false := by decide

theorem test_wf_refuses_wrPayloadMid_length : (Instr.wrPayloadMid []).wf = false := by decide

theorem test_wf_refuses_wrPayloadLast_length : (Instr.wrPayloadLast (zeros 17)).wf = false := by decide

theorem test_wf_refuses_rdFat_below : (Instr.rdFat 0).wf = false := by decide

theorem test_wf_refuses_rdFat_above : (Instr.rdFat 65).wf = false := by decide

theorem test_wf_refuses_rdRoot_below : (Instr.rdRoot 64).wf = false := by decide

theorem test_wf_refuses_rdRoot_above : (Instr.rdRoot 69).wf = false := by decide

theorem test_wf_refuses_rdData_below : (Instr.rdData 68).wf = false := by decide

theorem test_wf_refuses_rdData_above : (Instr.rdData 71).wf = false := by decide

theorem test_wf_refuses_rdZero_below : (Instr.rdZero 70).wf = false := by decide

theorem test_wf_refuses_hidTunnel_length : (Instr.hidTunnel 2 (zeros 62)).wf = false := by decide

theorem test_wf_refuses_hidUnknown_bininfo : (Instr.hidUnknown 1 0).wf = false := by decide

theorem test_wf_refuses_hidUnknown_info : (Instr.hidUnknown 2 0).wf = false := by decide

theorem test_wf_refuses_rxOther_ack : (Instr.rxOther 0x10).wf = false := by decide

theorem test_wf_refuses_data_length : (Instr.data (zeros 15)).wf = false := by decide

theorem test_wf_refuses_reply_length : (Instr.reply (zeros 64)).wf = false := by decide

theorem test_wf_refuses_relayPacket_empty : (Instr.relayPacket []).wf = false := by decide

theorem test_wf_refuses_relayPacket_length : (Instr.relayPacket (zeros 64)).wf = false := by decide

/-! ### Decoding: a word written out from the encoding, for every constructor (`30_encoding.md` R92 to R117) -/

/-- R90: `lba` 100, then the block. -/
theorem test_decode_wrBegin : decode .blockWrite ([0x64, 0x00, 0x00, 0x00] ++ zeros 512) = .ok (.wrBegin 100 (zeros 512)) := by
  set_option maxRecDepth 20000 in decide

/-- V2, R132's example. -/
theorem test_decode_wrHdrLive : decode .header [0x55, 0x46, 0x32, 0x0A, 0x57, 0x51, 0x5D, 0x9E, 0x00, 0x20, 0x00, 0x00, 0x00, 0x01, 0x00, 0x00] = .ok (.wrHdrLive (header 0 0x9E)) := by decide

/-- R93: byte 8 bit 0 set. -/
theorem test_decode_wrHdrSkip : decode .header [0x55, 0x46, 0x32, 0x0A, 0x57, 0x51, 0x5D, 0x9E, 0x01, 0x20, 0x00, 0x00, 0x00, 0x01, 0x00, 0x00] = .ok (.wrHdrSkip (header 1 0x9E)) := by decide

/-- V4: byte 7 is 9F. -/
theorem test_decode_wrHdrNomagic : decode .header [0x55, 0x46, 0x32, 0x0A, 0x57, 0x51, 0x5D, 0x9F, 0x00, 0x20, 0x00, 0x00, 0x00, 0x01, 0x00, 0x00] = .ok (.wrHdrNomagic (header 0 0x9F)) := by decide

/-- R97: size 256, index 1, count 2 (P2). -/
theorem test_decode_wrMeta : decode .metadata [0x00, 0x01, 0x00, 0x00, 0x01, 0x00, 0x00, 0x00, 0x02, 0x00, 0x00, 0x00, 0x00, 0x00, 0x00, 0x00] = .ok (.wrMeta (metadata 256 1 2)) := by decide

/-- R98. -/
theorem test_decode_wrPayloadSkip : decode (.payload .skip) payload = .ok (.wrPayloadSkip payload) := by
  set_option maxRecDepth 20000 in decide

/-- R98. -/
theorem test_decode_wrPayloadOpen : decode (.payload .first) payload = .ok (.wrPayloadOpen payload) := by
  set_option maxRecDepth 20000 in decide

/-- R98. -/
theorem test_decode_wrPayloadMid : decode (.payload .mid) payload = .ok (.wrPayloadMid payload) := by
  set_option maxRecDepth 20000 in decide

/-- R98. -/
theorem test_decode_wrPayloadLast : decode (.payload .last) payload = .ok (.wrPayloadLast payload) := by
  set_option maxRecDepth 20000 in decide

/-- R92: no bytes. -/
theorem test_decode_wrEnd : decode .blockEnd [] = .ok (.wrEnd) := by decide

/-- R92: no bytes. -/
theorem test_decode_hsDoneLa : decode .ackedLa [] = .ok (.hsDoneLa) := by decide

/-- R92: no bytes. -/
theorem test_decode_hsDonePg : decode .ackedPg [] = .ok (.hsDonePg) := by decide

/-- R161: block 0. -/
theorem test_decode_rdBoot : decode .blockRead [0x00, 0x00, 0x00, 0x00] = .ok (.rdBoot) := by
  set_option maxRecDepth 20000 in decide

/-- R161: block 64, the last of the FAT. -/
theorem test_decode_rdFat : decode .blockRead [0x40, 0x00, 0x00, 0x00] = .ok (.rdFat 64) := by
  set_option maxRecDepth 20000 in decide

/-- R161: block 65. -/
theorem test_decode_rdRoot : decode .blockRead [0x41, 0x00, 0x00, 0x00] = .ok (.rdRoot 65) := by
  set_option maxRecDepth 20000 in decide

/-- R161: block 70. -/
theorem test_decode_rdData : decode .blockRead [0x46, 0x00, 0x00, 0x00] = .ok (.rdData 70) := by
  set_option maxRecDepth 20000 in decide

/-- R161: block 71. -/
theorem test_decode_rdZero : decode .blockRead [0x47, 0x00, 0x00, 0x00] = .ok (.rdZero 71) := by
  set_option maxRecDepth 20000 in decide

/-- V50: 82 30 20. -/
theorem test_decode_hidTunnel : decode .hidOut ([0x82, 0x30, 0x20] ++ zeros 61) = .ok (.hidTunnel 2 ([0x30, 0x20] ++ zeros 61)) := by
  set_option maxRecDepth 20000 in decide

/-- V43: framing low bits, reserved bits and data are ignored. -/
theorem test_decode_hidBininfo : decode .hidOut ([0x7F, 0x01, 0x00, 0x00, 0x00, 0x55, 0xAA, 0xFF, 0xFF, 0x77] ++ zeros 54) = .ok (.hidBininfo 0xAA55) := by
  set_option maxRecDepth 20000 in decide

/-- V41. -/
theorem test_decode_hidInfo : decode .hidOut ([0x00, 0x02, 0x00, 0x00, 0x00, 0x07, 0x00] ++ zeros 57) = .ok (.hidInfo 0x0007) := by
  set_option maxRecDepth 20000 in decide

/-- V45: all 32 bits of the id are compared. -/
theorem test_decode_hidUnknown : decode .hidOut ([0x00, 0x01, 0x00, 0x00, 0x01, 0x01, 0x00] ++ zeros 57) = .ok (.hidUnknown 0x01000001 0x0001) := by
  set_option maxRecDepth 20000 in decide

/-- R92: no bytes. -/
theorem test_decode_flushTick : decode .flushTick [] = .ok (.flushTick) := by decide

/-- R92: no bytes. -/
theorem test_decode_relay : decode .relay [] = .ok (.relay) := by decide

/-- R92: no bytes. -/
theorem test_decode_drain : decode .drain [] = .ok (.drain) := by decide

/-- R103. -/
theorem test_decode_rxAck : decode .rx [0x10] = .ok (.rxAck) := by decide

/-- R103: 0x14. -/
theorem test_decode_rxOther : decode .rx [0x14] = .ok (.rxOther 0x14) := by decide

/-- R92: no bytes. -/
theorem test_decode_wdtExpire : decode .wdt [] = .ok (.wdtExpire) := by decide

/-- R92: no bytes. -/
theorem test_decode_por : decode .por [] = .ok (.por) := by decide

/-- R192's example: 55 C0 1F. -/
theorem test_decode_loadAddress : decode (.emitted .command) [0x55, 0xC0, 0x1F] = .ok (.loadAddress 0x1FC0) := by decide

/-- R101. -/
theorem test_decode_sync : decode (.emitted .command) [0x20] = .ok (.sync) := by decide

/-- R100: 64 00 80 20. -/
theorem test_decode_progPage : decode (.emitted .command) [0x64, 0x00, 0x80, 0x20] = .ok (.progPage 128 0x20) := by decide

/-- R102. -/
theorem test_decode_data : decode (.emitted .data) payload = .ok (.data payload) := by
  set_option maxRecDepth 20000 in decide

/-- the model's selector byte, log 4. -/
theorem test_decode_resetStart : decode (.emitted .resetLine) [0x00] = .ok (.resetStart) := by decide

/-- the model's selector byte, log 4. -/
theorem test_decode_resetFinish : decode (.emitted .resetLine) [0x01] = .ok (.resetFinish) := by decide

/-- V42's reply: 84 EF BE 01 00. -/
theorem test_decode_reply : decode (.emitted .reply) ([0x84, 0xEF, 0xBE, 0x01, 0x00] ++ zeros 59) = .ok (.reply [0xEF, 0xBE, 0x01, 0x00]) := by
  set_option maxRecDepth 20000 in decide

/-- V57: 82 14 10. -/
theorem test_decode_relayPacket : decode (.emitted .relayPacket) ([0x82, 0x14, 0x10] ++ zeros 61) = .ok (.relayPacket [0x14, 0x10]) := by
  set_option maxRecDepth 20000 in decide

/-- the model's selector byte, log 4. -/
theorem test_decode_reboot : decode (.emitted .system) [0x02] = .ok (.reboot .por) := by decide

/-- R90: a block that is not 512 bytes, a packet that is not 64, an outbound packet with stray padding: no unit. -/
theorem test_decode_refuses :
    decode .blockWrite (zeros 515) = .error .wrongLength ∧ decode .hidOut (zeros 63) = .error .wrongLength
      ∧ decode (.emitted .reply) ([0x81, 0x00, 0x01] ++ zeros 61) = .error .noSuchUnit
      ∧ decode (.emitted .relayPacket) (0x80 :: zeros 63) = .error .noSuchUnit
      ∧ decode (.emitted .command) [0x56, 0x00, 0x00] = .error .noSuchUnit := by
  set_option maxRecDepth 20000 in decide

/-! ### The opcode table's words (log 6) -/

/-- R192's example in the table's numbering, and the other rows with a word. -/
theorem test_table_words :
    decodeTableWord 24 0x55C01F = some (.loadAddress 0x1FC0)
      ∧ decodeTableWord 32 0x64008020 = some (.progPage 128 0x20)
      ∧ decodeTableWord 8 0x20 = some .sync ∧ decodeTableWord 8 0x10 = some .rxAck
      ∧ decodeTableWord 8 0x14 = some (.rxOther 0x14)
      ∧ decodeTableWord 40 0x0000000100 = some (.hidBininfo 0)
      ∧ decodeTableWord 56 0x12340000000200 = some (.hidInfo 0x1234)
      ∧ decodeTableWord 56 0xBEEF0000009900 = some (.hidUnknown 0x99 0xBEEF) := by
  set_option maxRecDepth 20000 in decide

/-- Header chunks: the first byte in bits 7 to 0. -/
theorem test_table_headers :
    decodeTableWord 72 0x009E5D51570A324655 = some (.wrHdrLive
        ([0x55, 0x46, 0x32, 0x0A, 0x57, 0x51, 0x5D, 0x9E, 0x00] ++ zeros 7))
      ∧ decodeTableWord 72 0x019E5D51570A324655 = some (.wrHdrSkip
        ([0x55, 0x46, 0x32, 0x0A, 0x57, 0x51, 0x5D, 0x9E, 0x01] ++ zeros 7))
      ∧ decodeTableWord 72 0 = some (.wrHdrNomagic (zeros 16))
      ∧ decodeTableWord 8 0x82 = some (.hidTunnel 2 (zeros 63)) := by
  set_option maxRecDepth 20000 in decide

/-- The very next step runs a stored word: a live header, an identity command, a received byte, an emitted command. -/
theorem test_withFetchWord :
    (nextOf (step (State.reset.withFetchWord 72 0x009E5D51570A324655))).map (fun s => (s.upc, s.ci, s.inert))
        = some (.blk, 1, false)
      ∧ (nextOf (step (State.reset.withFetchWord 56 0x00070000000200))).map (fun s => s.hidOut.length) = some 1
      ∧ (nextOf (step (State.reset.withFetchWord 8 0x14))).map (fun s => s.t2h) = some [0x14]
      ∧ (nextOf (step (State.reset.withFetchWord 24 0x55C01F))).map (fun s => s.serOut)
        = some [.tx 0x55, .tx 0xC0, .tx 0x1F] := by
  set_option maxRecDepth 20000 in decide

/-! ### One step of each operation -/

/-- R130's example: from reset, `upc = BLK`, `ci = 0`. -/
theorem test_wrBegin :
    (nextOf (exec (.wrBegin 100 (block 0)) State.reset)).map (fun s => (s.upc, s.ci)) = some (.blk, 0) := by
  decide

/-- R130: a block offered while one is in flight waits; the sequencer runs the header. -/
theorem test_wrBegin_waits :
    (nextOf (step { inBlock 0 with events := [.wr 7 (zeros 512)] })).map (fun s => (s.ci, s.events.length)) = some (1, 1) := by
  set_option maxRecDepth 20000 in decide

/-- V2: live, `wordAddr` 0x0080. -/
theorem test_wrHdrLive :
    (nextOf (exec (.wrHdrLive (header 0 0x9E)) { inBlock 0 with inert := true })).map
      (fun s => (s.inert, s.wordAddr, s.ci)) = some (false, 0x0080, 1) := by
  decide

/-- V5 and R132 (e): an odd address 0x0101 loses bit 0. -/
theorem test_wrHdrLive_odd :
    wordAddrNew Config.device [0, 0, 0, 0, 0, 0, 0, 0, 0, 0, 0, 0, 0x01, 0x01, 0x00, 0x00] = 0x0080 := by
  decide

/-- V3: inert; R132 (a): `wordAddr` as it was. -/
theorem test_wrHdrSkip :
    (nextOf (exec (.wrHdrSkip (header 1 0x9E)) (inBlock 0))).map (fun s => (s.inert, s.wordAddr, s.ci))
      = some (true, 0x0080, 1) := by
  decide

/-- V4. -/
theorem test_wrHdrNomagic :
    (nextOf (exec (.wrHdrNomagic (zeros 16)) (inBlock 0))).map (fun s => (s.inert, s.wordAddr, s.ci))
      = some (true, 0x0080, 1) := by
  decide

/-- P2's metadata: two pages, count 2 adopted, index 1 recorded. -/
theorem test_wrMeta :
    (nextOf (exec (.wrMeta (metadata 256 1 2)) (inBlock 1))).map
      (fun s => (s.pagesPending, s.expCount, s.bitmap, s.writtenCount, s.ci)) = some (2, 2, 2, 1, 2) := by
  decide

/-- V13 and V12: a differing count freezes; index 256 is not recorded. -/
theorem test_wrMeta_conflict :
    (nextOf (exec (.wrMeta (metadata 476 256 3)) { inBlock 1 with expCount := 2 })).map
      (fun s => (s.pagesPending, s.expCount, s.bitmap, s.writtenCount)) = some (3, 0xFFFFFFFF, 0, 0) := by
  decide

/-- R137's example: chunk 18 of a block whose pages are done. -/
theorem test_wrPayloadSkip :
    (nextOf (exec (.wrPayloadSkip payload) { inBlock 18 with pagesPending := 0 })).map (fun s => (s.ci, s.serOut))
      = some (19, []) := by
  decide

/-- R141's example: 55 80 00 20, WAIT_LA. -/
theorem test_wrPayloadOpen :
    (nextOf (exec (.wrPayloadOpen payload) (inBlock 2))).map (fun s => (s.serOut, s.upc, s.ci, s.wdt))
      = some ([.tx 0x55, .tx 0x80, .tx 0x00, .tx 0x20], .waitLa, 2, .hs) := by
  decide

/-- V60: the first page resets the target first. -/
theorem test_wrPayloadOpen_first :
    (nextOf (exec (.wrPayloadOpen payload) { inBlock 2 with started := false, wordAddr := 0 })).map
      (fun s => (s.serOut, s.started)) = some ([.resetStart, .tx 0x55, .tx 0x00, .tx 0x00, .tx 0x20], true) := by
  decide

/-- R142's example: chunk 3 is sent as it is. -/
theorem test_wrPayloadMid :
    (nextOf (exec (.wrPayloadMid payload) (inBlock 3))).map (fun s => (s.serOut, s.ci))
      = some (payload.map SerEvent.tx, 4) := by
  decide

/-- R143's example: chunk 9, then 20, and waits. -/
theorem test_wrPayloadLast :
    (nextOf (exec (.wrPayloadLast payload) (inBlock 9))).map (fun s => (s.serOut, s.upc, s.ci))
      = some (payload.map SerEvent.tx ++ [.tx 0x20], .waitPg, 9) := by
  decide

/-- R140's example: 2 reaches 2. -/
theorem test_wrEnd :
    (nextOf (exec .wrEnd { inBlock 32 with expCount := 2, writtenCount := 2 })).map
      (fun s => (s.writtenCount, s.serOut, s.wdt, s.upc)) = some (0, [.resetFinish], .done, .idle) := by
  decide

/-- V16: INDET never completes. -/
theorem test_wrEnd_indet :
    (nextOf (exec .wrEnd { inBlock 32 with expCount := 0xFFFFFFFF, writtenCount := 2 })).map
      (fun s => (s.writtenCount, s.serOut, s.wdt, s.upc)) = some (2, [], .off, .idle) := by
  decide

/-- R193's example. -/
theorem test_hsDoneLa :
    (nextOf (exec .hsDoneLa inWaitLa)).map (fun s => (s.serOut, s.upc, s.ci, s.wdt))
      = some ([.tx 0x64, .tx 0x00, .tx 0x80, .tx 0x20] ++ payload.map SerEvent.tx, .blk, 3, .off) := by
  decide

/-- R195's example: 0x0080 and 2 become 0x00C0 and 1. -/
theorem test_hsDonePg :
    (nextOf (exec .hsDonePg inWaitPg)).map (fun s => (s.wordAddr, s.pagesPending, s.ci, s.upc))
      = some (0x00C0, 1, 10, .blk) := by
  decide

/-- V30: byte sum 2826, signature. -/
theorem test_rdBoot :
    ((readBlock Config.device 0).map BitVec.toNat).sum = 2826
      ∧ (readBlock Config.device 0).drop 510 = [0x55, 0xAA] := by
  set_option maxRecDepth 20000 in decide

/-- V31: byte sum 2033 in both copies. -/
theorem test_rdFat :
    (nextOf (exec (.rdFat 33) State.reset)).map (fun s => s.mscReply.map (fun b => (b.map BitVec.toNat).sum))
      = some (some 2033) := by
  set_option maxRecDepth 20000 in decide

/-- V33: byte sum 2399. -/
theorem test_rdRoot :
    (nextOf (exec (.rdRoot 65) State.reset)).map (fun s => s.mscReply.map (fun b => (b.map BitVec.toNat).sum))
      = some (some 2399) := by
  set_option maxRecDepth 20000 in decide

/-- V35: byte sum 4223. -/
theorem test_rdData :
    (nextOf (exec (.rdData 69) State.reset)).map (fun s => s.mscReply.map (fun b => (b.map BitVec.toNat).sum))
      = some (some 4223) := by
  set_option maxRecDepth 20000 in decide

/-- V36: byte sum 10421. -/
theorem test_rdData_html :
    ((readBlock Config.device 70).map BitVec.toNat).sum = 10421 := by
  set_option maxRecDepth 20000 in decide

/-- R41: the file-name table is a parameter; one file (R6, R164) has one entry. -/
theorem test_rdRoot_other_names :
    let b := readBlock { Config.device with numInfo := 1, fileNames := [Config.indexName] } 65
    (b.drop 32).take 11 = [0x49, 0x4E, 0x44, 0x45, 0x58, 0x20, 0x20, 0x20, 0x48, 0x54, 0x4D] ∧ b.drop 64 = zeros 448 := by
  set_option maxRecDepth 20000 in decide

/-- R7: an ill-formed configuration for each condition. -/
theorem test_valid_refuses :
    { Config.device with chunk := 15 }.valid = false ∧ { Config.device with chunk := 8 }.valid = false
      ∧ { Config.device with page := 96 }.valid = false ∧ { Config.device with chunk := 64, page := 32 }.valid = false
      ∧ { Config.device with page := 512 }.valid = false ∧ { Config.device with blk := 2 ^ 18, page := 2 ^ 17 }.valid = false
      ∧ { Config.device with blk := 2 ^ 18, page := 2 ^ 16 }.valid = false
      ∧ { Config.device with bitmapCap := 0 }.valid = false ∧ { Config.device with pkt := 20, ident := [] }.valid = false
      ∧ { Config.device with pkt := 60 }.valid = false ∧ { Config.device with pkt := 129 }.valid = false
      ∧ { Config.device with pkt := 1024, hidCntMask := 0xFF }.valid = false
      ∧ { Config.device with indexUrl := zeros 430 }.valid = false ∧ { Config.device with numInfo := 16 }.valid = false
      ∧ { Config.device with indet := 0 }.valid = false ∧ { Config.device with ackByte := 0x20 }.valid = false := by
  set_option maxRecDepth 20000 in decide

/-- V37. -/
theorem test_rdZero :
    readBlock Config.device 0xFFFFFFFF = zeros 512 ∧ readBlock Config.device 7999 = zeros 512 := by
  set_option maxRecDepth 20000 in decide

/-- V50. -/
theorem test_hidTunnel :
    (nextOf (exec (.hidTunnel 2 ([0x30, 0x20] ++ zeros 61)) State.reset)).map (fun s => (s.h2t, s.hidOut))
      = some ([0x30, 0x20], []) := by
  decide

/-- V53: with 126 bytes waiting, two are queued and three dropped. -/
theorem test_hidTunnel_full :
    (nextOf (exec (.hidTunnel 5 ([0xE1, 0xE2, 0xE3, 0xE4, 0xE5] ++ zeros 58)) { State.reset with h2t := zeros 126 })).map
      (fun s => s.h2t.drop 126) = some [0xE1, 0xE2] := by
  set_option maxRecDepth 20000 in decide

/-- V40. -/
theorem test_hidBininfo :
    (nextOf (exec (.hidBininfo 0x1234) State.reset)).map (fun s => s.hidOut)
      = some [[0x94, 0x34, 0x12, 0x00, 0x00, 0x01, 0x00, 0x00, 0x00, 0x80, 0x00, 0x00, 0x00, 0x00, 0x01, 0x00, 0x00,
          0x3F, 0x00, 0x00, 0x00] ++ zeros 43] := by
  set_option maxRecDepth 20000 in decide

/-- V41: BC 07 00 00 00, the identity string, 3 zeros. -/
theorem test_hidInfo :
    (nextOf (exec (.hidInfo 0x0007) State.reset)).map (fun s => s.hidOut)
      = some [[0xBC, 0x07, 0x00, 0x00, 0x00] ++ Config.identBytes ++ zeros 3] := by
  set_option maxRecDepth 20000 in decide

/-- V42. -/
theorem test_hidUnknown :
    (nextOf (exec (.hidUnknown 0x99 0xBEEF) State.reset)).map (fun s => s.hidOut)
      = some [[0x84, 0xEF, 0xBE, 0x01, 0x00] ++ zeros 59] := by
  set_option maxRecDepth 20000 in decide

/-- R239. -/
theorem test_flushTick :
    (nextOf (exec .flushTick State.reset)).map (fun s => s.flushPending) = some true := by
  decide

/-- V57. -/
theorem test_relay :
    (nextOf (exec .relay { State.reset with t2h := [0x14, 0x10], flushPending := true })).map
      (fun s => (s.hidOut, s.t2h, s.flushPending)) = some ([[0x82, 0x14, 0x10] ++ zeros 61], [], false) := by
  set_option maxRecDepth 20000 in decide

/-- V47: 64 bytes leave one and the flag. -/
theorem test_relay_rearms :
    (nextOf (exec .relay { State.reset with t2h := List.replicate 64 0xA0, flushPending := true })).map
      (fun s => (s.t2h, s.flushPending, s.hidOut.length)) = some ([0xA0], true, 1) := by
  set_option maxRecDepth 20000 in decide

/-- V54. -/
theorem test_drain :
    (nextOf (exec .drain { State.reset with h2t := [0x30, 0x20] })).map (fun s => (s.serOut, s.h2t))
      = some ([.tx 0x30], [0x20]) := by
  decide

/-- V55: counted and queued, in any position. -/
theorem test_rxAck :
    (nextOf (exec .rxAck (inBlock 3))).map (fun s => (s.ackCount, s.t2h)) = some (1, [0x10]) := by
  decide

/-- V63: 255 wraps to 0; a full ring drops the byte. -/
theorem test_rxAck_wraps :
    (nextOf (exec .rxAck { inWaitLa with ackCount := 255, t2h := zeros 128 })).map (fun s => (s.ackCount, s.t2h.length))
      = some (0, 128) := by
  set_option maxRecDepth 20000 in decide

/-- V61. -/
theorem test_rxOther :
    (nextOf (exec (.rxOther 0x14) { inWaitLa with ackCount := 0 })).map (fun s => (s.ackCount, s.t2h))
      = some (0, [0x14]) := by
  decide

/-- V66: a handshake time-out. -/
theorem test_wdtExpire :
    (nextOf (exec .wdtExpire inWaitLa)).map (fun s => (s.sysOut, s.upc, s.started, s.bitmap))
      = some ([.hsTimeout], .idle, false, 0) := by
  decide

/-- R263 (b), log 2: while OFF nothing happens. -/
theorem test_wdtExpire_off :
    (nextOf (exec .wdtExpire State.reset)).map (fun s => s.sysOut) = some [] := by
  decide

/-- R29 with ACK_W = 4 (R6): 15 wraps to 0. -/
theorem test_rxAck_other_width :
    (nextOf (execFor { Config.device with ackW := 4 } .rxAck { inWaitLa with ackCount := 15 })).map (fun s => s.ackCount)
      = some 0 := by
  decide

/-- R290. -/
theorem test_por :
    (nextOf (exec .por (inBlock 5))).map (fun s => (s.sysOut, s.upc, s.ci)) = some ([.por], .idle, 0) := by
  decide

/-- R192's example. -/
theorem test_loadAddress :
    (nextOf (exec (.loadAddress 0x1FC0) State.reset)).map (fun s => s.serOut) = some [.tx 0x55, .tx 0xC0, .tx 0x1F] := by
  decide

/-- R200. -/
theorem test_sync :
    (nextOf (exec .sync { State.reset with ackCount := 3 })).map (fun s => (s.serOut, s.ackCount, s.wdt))
      = some ([.tx 0x20], 0, .hs) := by
  decide

/-- R100. -/
theorem test_progPage :
    (nextOf (exec (.progPage 128 0x20) State.reset)).map (fun s => s.serOut)
      = some [.tx 0x64, .tx 0x00, .tx 0x80, .tx 0x20] := by
  decide

/-- R102. -/
theorem test_data :
    (nextOf (exec (.data payload) State.reset)).map (fun s => s.serOut) = some (payload.map SerEvent.tx) := by
  decide

/-- R191. -/
theorem test_resetStart :
    (nextOf (exec .resetStart State.reset)).map (fun s => (s.serOut, s.started)) = some ([.resetStart], true) := by
  decide

/-- R196. -/
theorem test_resetFinish :
    (nextOf (exec .resetFinish State.reset)).map (fun s => (s.serOut, s.started)) = some ([.resetFinish], false) := by
  decide

/-- R233, R234 on V42's body. -/
theorem test_reply :
    (nextOf (exec (.reply [0xEF, 0xBE, 0x01, 0x00]) State.reset)).map (fun s => s.hidOut)
      = some [[0x84, 0xEF, 0xBE, 0x01, 0x00] ++ zeros 59] := by
  set_option maxRecDepth 20000 in decide

/-- R109 on V57's bytes. -/
theorem test_relayPacket :
    (nextOf (exec (.relayPacket [0x14, 0x10]) State.reset)).map (fun s => s.hidOut)
      = some [[0x82, 0x14, 0x10] ++ zeros 61] := by
  set_option maxRecDepth 20000 in decide

/-- R262. -/
theorem test_reboot :
    (nextOf (exec (.reboot .done) (inBlock 5))).map (fun s => (s.sysOut, s.upc)) = some ([.done], .idle) := by
  decide

/-- Log 4: a block of 511 bytes is no unit. -/
theorem test_step_refuses_bad_block :
    refusalOf (step { State.reset with events := [.wr 0 (zeros 511)] }) = some (.badUnit .wrongLength) := by
  set_option maxRecDepth 20000 in decide

/-- Log 13: `ci = 33` has no row in R247. -/
theorem test_step_off_table :
    faultOf (step (inBlock 33)) = some .offTable := by
  set_option maxRecDepth 20000 in decide

/-- R23: with nothing to do the main loop polls. -/
theorem test_step_polls :
    nextOf (step State.reset) = some State.reset := by
  set_option maxRecDepth 20000 in decide

/-! ### Witnesses: concrete states and operands that meet the hypotheses of each statement, at boundary values -/

theorem test_witness_DecodeGivesBackEncoded :
    (Instr.wrBegin 0xFFFFFFFF (zeros 512)).wf = true ∧ (Instr.rdFat 1).wf = true ∧ (Instr.rdFat 64).wf = true
      ∧ (Instr.rdRoot 65).wf = true ∧ (Instr.rdRoot 68).wf = true ∧ (Instr.rdData 69).wf = true
      ∧ (Instr.rdData 70).wf = true ∧ (Instr.rdZero 71).wf = true ∧ (Instr.rdZero 0xFFFFFFFF).wf = true
      ∧ (Instr.hidTunnel 127 (zeros 63)).wf = true ∧ (Instr.reply (zeros 63)).wf = true
      ∧ (Instr.relayPacket [0x00]).wf = true ∧ (Instr.wrHdrLive (header 0 0x9E)).wf = true
      ∧ (Instr.wrHdrSkip (header 1 0x9E)).wf = true ∧ (Instr.wrHdrNomagic (header 0 0x9F)).wf = true
      ∧ (Instr.hidUnknown 3 0).wf = true ∧ (Instr.rxOther 0x11).wf = true ∧ (Instr.data payload).wf = true := by
  set_option maxRecDepth 20000 in decide

theorem test_witness_EncodeGivesBackDecoded :
    Port.blockRead ≠ .hidOut ∧ decode .blockRead [0x47, 0x00, 0x00, 0x00] = .ok (.rdZero 71)
      ∧ decode (.emitted .reply) (0xBF :: zeros 63) = .ok (.reply (zeros 63)) := by
  set_option maxRecDepth 20000 in decide

theorem test_witness_DecodedIsWellFormed :
    decode .hidOut (0xFF :: zeros 63) = .ok (.hidTunnel 127 (zeros 63))
      ∧ decode .blockRead [0x44, 0x00, 0x00, 0x00] = .ok (.rdRoot 68) := by
  set_option maxRecDepth 20000 in decide

theorem test_witness_EveryInputSelectsAnOperation :
    (zeros 512).length = 512 ∧ (header 1 0x9E).length = 16 ∧ (zeros 64).length = 64 := by
  set_option maxRecDepth 20000 in decide

theorem test_witness_HeaderClassFromMagicAndSkipFlag :
    (block 0).length = 512
      ∧ (block 0).take 8 = [0x55#8, 0x46#8, 0x32#8, 0x0A#8, 0x57#8, 0x51#8, 0x5D#8, 0x9E#8]
      ∧ (byteAt (block 0) 8).getLsbD 0 = false ∧ (byteAt (block 1) 8).getLsbD 0 = true
      ∧ (zeros 512).take 8 ≠ [0x55#8, 0x46#8, 0x32#8, 0x0A#8, 0x57#8, 0x51#8, 0x5D#8, 0x9E#8] := by
  set_option maxRecDepth 20000 in decide

theorem test_witness_PacketSelectsItsOperation :
    (0x80#8 :: zeros 63).length = 64 ∧ (byteAt (0x80#8 :: zeros 63) 0).getLsbD 7 = true
      ∧ (byteAt ([0x7F#8, 0x01] ++ zeros 62) 0).getLsbD 7 = false
      ∧ (0x00#8 ++ 0x00#8 ++ 0x00#8 ++ 0x01#8 : BitVec 32) = 0x00000001
      ∧ byteAt ([0x7F#8, 0x01] ++ zeros 62) 1 = 0x01 ∧ byteAt ([0x7F#8, 0x02] ++ zeros 62) 1 = 0x02
      ∧ byteAt ([0x7F#8, 0x03] ++ zeros 62) 1 = 0x03 := by
  set_option maxRecDepth 20000 in decide

theorem test_witness_CommandReadsHeaderBytesOnly :
    let p := [0x7F#8, 0x01, 0x00, 0x00, 0x00, 0x55, 0xAA, 0xFF] ++ zeros 56
    let q := [0x00#8, 0x01, 0x00, 0x00, 0x00, 0x55, 0xAA] ++ zeros 57
    p ≠ q ∧ p.length = 64 ∧ q.length = 64 ∧ (byteAt p 0).getLsbD 7 = false ∧ (byteAt q 0).getLsbD 7 = false
      ∧ (p.drop 1).take 6 = (q.drop 1).take 6 := by
  set_option maxRecDepth 20000 in decide

theorem test_witness_StepRunsDecodedUnit :
    (let cfg := { Config.device with ackByte := 0x14 }
     fetch cfg { State.reset with events := [.rx 0x14] } = .run ⟨.rx, [0x14]⟩ State.reset
      ∧ decodeFor cfg .rx [0x14] = .ok .rxAck)
      ∧ fetch Config.device { State.reset with events := [.rx 0x14] } = .run ⟨.rx, [0x14]⟩ State.reset
      ∧ decode .rx [0x14] = .ok (.rxOther 0x14) := by
  set_option maxRecDepth 20000 in decide

theorem test_witness_FetchTakesOfferedEvents :
    State.reset.upc = .idle
      ∧ ({ State.reset with events := [.wr 7 (zeros 512), .seq] } : State).events = .wr 7 (zeros 512) :: [.seq]
      ∧ ({ State.reset with events := [.rd 0xFFFFFFFF] } : State).events = .rd 0xFFFFFFFF :: []
      ∧ ({ State.reset with events := [.hid (zeros 64)] } : State).events = .hid (zeros 64) :: []
      ∧ ({ inWaitLa with events := [.rx 0x10] } : State).events = .rx 0x10 :: []
      ∧ ({ inWaitLa with events := [.tick] } : State).events = .tick :: []
      ∧ ({ inWaitLa with events := [.relay] } : State).events = .relay :: []
      ∧ ({ inWaitLa with events := [.drain] } : State).events = .drain :: []
      ∧ ({ inWaitLa with events := [.wdt] } : State).events = .wdt :: []
      ∧ ({ inWaitLa with events := [.por] } : State).events = .por :: []
      ∧ ({ inBlock 2 with events := [.seq, .rx 0x10] } : State).events = .seq :: [.rx 0x10] := by
  set_option maxRecDepth 20000 in decide

theorem test_witness_SequencerTakesChunkByIndex :
    (∀ c ∈ [0#6, 1#6, 2#6, 31#6, 32#6],
      (inBlock c).upc = .blk ∧ (inBlock c).blkData = some (block 0) ∧ (inBlock c).events = [])
      ∧ ({ inBlock 31 with events := [.seq, .rx 0x10] } : State).events = .seq :: [.rx 0x10] := by
  set_option maxRecDepth 20000 in decide

theorem test_witness_HostTransactionsWaitDuringBlock :
    let m := { inWaitLa with ackCount := 0, events := [.wr 0 (zeros 512), .rx 0x10, .rd 0] }
    let p := { inWaitLa with ackCount := 0, events := [.rd 0, .seq, .hid (zeros 64)] }
    let s := { inWaitLa with events := [.wr 0 (zeros 512), .rd 0, .hid (zeros 64)] }
    m.upc ≠ .idle ∧ fetch Config.device m = .run ⟨.rx, [0x10]⟩ { m with events := [.wr 0 (zeros 512), .rd 0] }
      ∧ p.upc ≠ .idle ∧ fetch Config.device p = .poll { p with events := [.rd 0, .hid (zeros 64)] }
      ∧ s.upc ≠ .idle ∧ (∀ e ∈ s.events, e.waits = true) ∧ (inBlock 5).upc ≠ .idle
      ∧ (∀ e ∈ (inBlock 5).events, e.waits = true) := by
  set_option maxRecDepth 20000 in decide

theorem test_witness_WrBeginLatchesBlock :
    State.reset.upc = .idle ∧ (inBlock 32).upc ≠ .idle
      ∧ ({ inBlock 32 with events := [.wr 1 (block 0)] } : State).events = [.wr 1 (block 0)] := by
  set_option maxRecDepth 20000 in decide

theorem test_witness_HeaderChunkSetsInertAndAddress :
    (inBlock 0).upc = .blk ∧ (inBlock 0).ci = 0 ∧ (header 0 0x9E).length = 16
      ∧ (header 0 0x9E).take 8 = [0x55#8, 0x46#8, 0x32#8, 0x0A#8, 0x57#8, 0x51#8, 0x5D#8, 0x9E#8]
      ∧ (byteAt (header 0 0x9E) 8).getLsbD 0 = false ∧ (byteAt (header 1 0x9E) 8).getLsbD 0 = true
      ∧ (header 0 0x9F).take 8 ≠ [0x55#8, 0x46#8, 0x32#8, 0x0A#8, 0x57#8, 0x51#8, 0x5D#8, 0x9E#8] := by
  set_option maxRecDepth 20000 in decide

theorem test_witness_MetadataChunkUpdatesTransferState :
    (inBlock 1).upc = .blk ∧ (inBlock 1).ci = 1 ∧ (inBlock 1).inert = false
      ∧ ({ inBlock 1 with inert := true } : State).inert = true := by
  set_option maxRecDepth 20000 in decide

theorem test_witness_SkippedPayloadOnlyAdvances :
    (inBlock 31).upc = .blk ∧ 2 ≤ (inBlock 2).ci.toNat ∧ (inBlock 31).ci.toNat ≤ 31
      ∧ ({ inBlock 31 with inert := true } : State).inert = true
      ∧ ({ inBlock 2 with pagesPending := 0 } : State).pagesPending = 0 := by
  set_option maxRecDepth 20000 in decide

theorem test_witness_OpeningChunkSendsLoadAddress :
    ∀ c ∈ [2#6, 10#6, 26#6], (inBlock c).upc = .blk ∧ 2 ≤ (inBlock c).ci.toNat ∧ (inBlock c).ci.toNat ≤ 31
      ∧ (inBlock c).inert = false ∧ (inBlock c).pagesPending ≠ 0 ∧ ((inBlock c).ci.toNat - 2) % 8 = 0 := by
  set_option maxRecDepth 20000 in decide

theorem test_witness_MiddleChunkIsSentVerbatim :
    ∀ c ∈ [3#6, 8#6, 31#6], (inBlock c).upc = .blk ∧ 2 ≤ (inBlock c).ci.toNat ∧ (inBlock c).ci.toNat ≤ 31
      ∧ (inBlock c).inert = false ∧ (inBlock c).pagesPending ≠ 0 ∧ 0 < ((inBlock c).ci.toNat - 2) % 8
      ∧ ((inBlock c).ci.toNat - 2) % 8 < 7 := by
  set_option maxRecDepth 20000 in decide

theorem test_witness_LastChunkStartsCommitHandshake :
    ∀ c ∈ [9#6, 17#6, 25#6], (inBlock c).upc = .blk ∧ 2 ≤ (inBlock c).ci.toNat ∧ (inBlock c).ci.toNat ≤ 31
      ∧ (inBlock c).inert = false ∧ (inBlock c).pagesPending ≠ 0 ∧ ((inBlock c).ci.toNat - 2) % 8 = 7 := by
  set_option maxRecDepth 20000 in decide

theorem test_witness_EndOfBlockCompletesWhenReached :
    (inBlock 32).upc = .blk ∧ (inBlock 32).ci = 32
      ∧ (let s := { inBlock 32 with expCount := 2, writtenCount := 2 };
         s.inert = false ∧ s.expCount ≠ 0x00000000 ∧ s.expCount ≠ 0xFFFFFFFF
          ∧ s.expCount.toNat ≤ s.writtenCount.toNat) := by
  set_option maxRecDepth 20000 in decide

theorem test_witness_LoadAddressAcknowledgedSendsProgramPage :
    inWaitLa.upc = .waitLa ∧ inWaitLa.ackCount ≠ 0 := by
  set_option maxRecDepth 20000 in decide

theorem test_witness_PageCommittedAdvancesAddress :
    inWaitPg.upc = .waitPg ∧ inWaitPg.ackCount ≠ 0 := by
  set_option maxRecDepth 20000 in decide

theorem test_witness_ReadsAnswerReadBlock :
    State.reset.upc = .idle ∧ 1 ≤ (1#32).toNat ∧ (64#32).toNat < 65 ∧ 65 ≤ (65#32).toNat ∧ (68#32).toNat < 69
      ∧ 69 ≤ (69#32).toNat ∧ (70#32).toNat < 71 ∧ 71 ≤ (71#32).toNat := by
  set_option maxRecDepth 20000 in decide

/-- For BootSectorForEveryConfiguration and EveryReadHasOneBlock. -/
theorem test_witness_ForEveryConfiguration :
    Config.device.valid = true
      ∧ { Config.device with numBlocks := 4000, page := 256, cmdInfo := 9 }.valid = true
      ∧ { Config.device with numInfo := 1 }.valid = true ∧ { Config.device with numInfo := 15 }.valid = true
      ∧ { Config.device with addrW := 12 }.valid = true ∧ { Config.device with reservedSectors := 3 }.valid = true
      ∧ { Config.device with blk := 1024 }.valid = true := by
  set_option maxRecDepth 20000 in decide

theorem test_witness_FatCopiesAreIdentical :
    1 ≤ (1#32).toNat ∧ (1#32).toNat ≤ 32 ∧ 1 ≤ (32#32).toNat ∧ (32#32).toNat ≤ 32 ∧ (32#32) ≠ 1 := by
  set_option maxRecDepth 20000 in decide

theorem test_witness_DataRegionHoldsFilesThenZeros :
    71 ≤ (71#32).toNat ∧ 71 ≤ (0xFFFFFFFF#32).toNat := by
  set_option maxRecDepth 20000 in decide

theorem test_witness_TunnelAppendsItsBytes :
    State.reset.upc = .idle ∧ (zeros 63).length = 63 ∧ (63#7).toNat ≤ 63
      ∧ (let s := { State.reset with h2t := zeros 65 }; s.h2t.length ≤ 128 ∧ s.h2t.length + (63#7).toNat ≤ 128)
      ∧ (let s := { State.reset with h2t := zeros 66 }; s.h2t.length ≤ 128 ∧ 128 < s.h2t.length + (63#7).toNat) := by
  set_option maxRecDepth 20000 in decide

theorem test_witness_TunnelCountAboveThePacketTakesIt :
    State.reset.upc = .idle ∧ (zeros 63).length = 63 ∧ 63 < (64#7).toNat ∧ 63 < (127#7).toNat
      ∧ State.reset.h2t.length ≤ 128 := by
  set_option maxRecDepth 20000 in decide

theorem test_witness_CommandReplyBytes :
    State.reset.upc = .idle ∧ (0#32) ≠ 1 ∧ (0#32) ≠ 2 := by
  set_option maxRecDepth 20000 in decide

theorem test_witness_EveryCommandSendsOnePacket :
    State.reset.upc = .idle ∧ (zeros 64).length = 64 ∧ decode .hidOut (zeros 64) = .ok (.hidUnknown 0 0)
      ∧ (byteAt (zeros 64) 0).getLsbD 7 = false
      ∧ decode .hidOut (0x80 :: zeros 63) = .ok (.hidTunnel 0 (zeros 63))
      ∧ (byteAt (0x80#8 :: zeros 63) 0).getLsbD 7 = true := by
  set_option maxRecDepth 20000 in decide

theorem test_witness_FlushTickSetsFlag :
    State.reset.upc = .idle := by
  set_option maxRecDepth 20000 in decide

theorem test_witness_RelaySendsOnePacket :
    ∀ n ∈ [1, 63, 64, 128], let s := { State.reset with flushPending := true, t2h := zeros n }
      s.upc = .idle ∧ s.flushPending = true ∧ s.t2h ≠ [] := by
  set_option maxRecDepth 20000 in decide

theorem test_witness_DrainSendsTheHead :
    let s := { State.reset with h2t := [0x30, 0x20] }
    s.upc = .idle ∧ s.h2t = 0x30 :: [0x20] := by
  set_option maxRecDepth 20000 in decide

theorem test_witness_OtherByteIsQueued :
    (0x11#8) ≠ 0x10 := by
  set_option maxRecDepth 20000 in decide

theorem test_witness_ResetCausesReboot :
    inWaitLa.wdt = .hs ∧ ({ State.reset with wdt := .done } : State).wdt = .done := by
  set_option maxRecDepth 20000 in decide

theorem test_witness_OutboundPacketBytes :
    (zeros 63).length ≤ 63 ∧ ([] : List Byte).length ≤ 63 := by
  set_option maxRecDepth 20000 in decide

theorem test_witness_DisabledOperationsChangeNothing :
    enabled .wrEnd (inBlock 31) = false ∧ enabled .hsDoneLa State.reset = false ∧ enabled .wdtExpire State.reset = false
      ∧ enabled (.rdZero 71) (inBlock 31) = false := by
  set_option maxRecDepth 20000 in decide

theorem test_witness_PositionMovesAsTabled :
    enabled .hsDonePg inWaitPg = true ∧ (nextOf (exec .hsDonePg inWaitPg)).isSome = true
      ∧ enabled (.wrPayloadOpen payload) (inBlock 2) = true
      ∧ (nextOf (exec (.wrPayloadOpen payload) (inBlock 2))).isSome = true := by
  set_option maxRecDepth 20000 in decide

theorem test_witness_OneOperationAppliesInBlock :
    ∀ c ∈ [0#6, 1#6, 2#6, 31#6, 32#6], (inBlock c).upc = .blk ∧ (inBlock c).ci.toNat ≤ 32 := by
  set_option maxRecDepth 20000 in decide

theorem test_witness_TracesOnlyGrow :
    (nextOf (step (inBlock 2))).isSome = true := by
  set_option maxRecDepth 20000 in decide

theorem test_witness_IndeterminateStaysUntilReboot :
    let s := { inBlock 1 with expCount := 0xFFFFFFFF }
    s.expCount = 0xFFFFFFFF ∧ (nextOf (step s)).map (fun t => t.sysOut) = some s.sysOut := by
  set_option maxRecDepth 20000 in decide

theorem test_witness_RecordingAnIndexTwiceCountsOnce :
    Config.device.bitmapCap ≤ 256 ∧ { Config.device with bitmapCap := 1 }.bitmapCap ≤ 256 := by
  set_option maxRecDepth 20000 in decide

theorem test_witness_BitmapBitsStayUntilReboot :
    let s := { inBlock 1 with bitmap := 1#256 <<< 255 }
    s.bitmap.getLsbD 255 = true ∧ (nextOf (step s)).map (fun t => t.sysOut) = some s.sysOut := by
  set_option maxRecDepth 20000 in decide

/-- A wait with nothing counted, and host transactions and a received byte offered. -/
def waiting : State := { inWaitLa with ackCount := 0, events := [.rd 0, .rx 0x14, .wdt] }

theorem test_witness_NothingIsSentWhileWaiting :
    waiting.waiting ∧ waiting.ackCount = 0 ∧ (∀ e ∈ waiting.events, e.offered = true)
      ∧ (nextOf (step waiting)).isSome = true :=
  ⟨.inl rfl, rfl, by set_option maxRecDepth 20000 in decide, by set_option maxRecDepth 20000 in decide⟩

/-- The invariant holds in a wait inside a block, with events of the spec still to come. -/
theorem test_witness_Inv : waiting.Inv where
  chunk_length := by decide
  packet_length := by decide
  h2t_capacity := by decide
  t2h_capacity := by decide
  ci_range := by decide
  block_latched := by decide
  block_length := by
    intro d h
    obtain rfl : block 0 = d := Option.some.inj h
    set_option maxRecDepth 20000 in decide
  armed_waits := fun _ => .inl rfl
  wait_bounded := fun _ => by decide
  wait_la := fun _ => by decide
  wait_pg := fun h => absurd h (by decide)
  line_released := rfl
  events_offered := by decide

/-- For StepKeepsStateInvariant, StepsNeverStopOnSpecEvents and TunnelRestsDuringBlock. -/
theorem test_witness_StepKeepsStateInvariant :
    waiting.Inv ∧ waiting.upc ≠ .idle ∧ (nextOf (step waiting)).map (fun t => t.sysOut) = some waiting.sysOut :=
  ⟨test_witness_Inv, by decide, by set_option maxRecDepth 20000 in decide⟩

theorem test_witness_StepKeepsCountInvariant :
    let s : State := { inBlock 1 with bitmap := 1, writtenCount := 1 }
    s.CountInv ∧ (nextOf (step s)).isSome = true :=
  ⟨⟨by set_option maxRecDepth 20000 in decide, fun _ => by set_option maxRecDepth 20000 in decide⟩, by set_option maxRecDepth 20000 in decide⟩

theorem test_witness_StepKeepsAddressBound :
    waiting.Inv ∧ waiting.AddressBound ∧ (nextOf (step waiting)).isSome = true :=
  ⟨test_witness_Inv, ⟨by decide, fun _ _ _ => by decide⟩, by set_option maxRecDepth 20000 in decide⟩

theorem test_witness_InertBlockChangesNothing :
    State.reset.upc = .idle ∧ (block 1).length = 512
      ∧ ¬ ((block 1).take 8 = [0x55#8, 0x46#8, 0x32#8, 0x0A#8, 0x57#8, 0x51#8, 0x5D#8, 0x9E#8]
        ∧ (byteAt (block 1) 8).getLsbD 0 = false) := by
  set_option maxRecDepth 20000 in decide

theorem test_witness_OnePageEndToEnd :
    ∀ c ∈ [2#6, 10#6, 18#6], let s : State := { inBlock c with events := pageTurns ++ [.tick] }
      s.upc = .blk ∧ s.blkData = some (block 0) ∧ (block 0).length = 512 ∧ 2 ≤ s.ci.toNat ∧ s.ci.toNat ≤ 18
      ∧ (s.ci.toNat - 2) % 8 = 0 ∧ s.inert = false ∧ s.pagesPending ≠ 0 ∧ s.wdt ≠ .hs
      ∧ s.events = pageTurns ++ [.tick] := by
  set_option maxRecDepth 20000 in decide

theorem test_witness_OnePageBlockEndToEnd :
    State.reset.upc = .idle ∧ State.reset.wdt ≠ .hs ∧ (block 0).length = 512
      ∧ (block 0).take 8 = [0x55#8, 0x46#8, 0x32#8, 0x0A#8, 0x57#8, 0x51#8, 0x5D#8, 0x9E#8]
      ∧ (byteAt (block 0) 8).getLsbD 0 = false ∧ 128 ≤ (le32 (block 0) 16).toNat ∧ (le32 (block 0) 16).toNat < 256 := by
  set_option maxRecDepth 20000 in decide

end Sys2Proof.Tests
end

