-- ==== Sys2Proof/Proofs/Scope.lean ====
section
/-! The proof about `00_scope.md`: the default configuration (R6) against the conditions of R7. -/

namespace Sys2Proof

namespace Config

/-- R7's list as propositions: what the decidable check `valid` decides, condition by condition. -/
theorem valid_iff {cfg : Config} :
    cfg.valid = true ↔
      cfg.blk % cfg.chunk = 0 ∧ 14 ≤ cfg.chunk
        ∧ 2 ^ cfg.pageShift = cfg.page ∧ cfg.page % cfg.chunk = 0
        ∧ cfg.page ≤ (cfg.nchunk - cfg.fpc) * cfg.chunk
        ∧ cfg.page / 2 < 2 ^ 16 ∧ cfg.page < 2 ^ 16
        ∧ 1 ≤ cfg.bitmapCap ∧ 21 ≤ cfg.pkt
        ∧ cfg.ident.length ≤ cfg.pkt - 5 ∧ cfg.pkt - 1 ≤ cfg.hidCntMask.toNat
        ∧ cfg.ident.length ≤ 512 ∧ cfg.html.length ≤ 512
        ∧ cfg.numInfo * 2 + 4 ≤ 512 ∧ cfg.numInfo + 1 ≤ 16
        ∧ cfg.unset ≠ cfg.indet ∧ cfg.ackByte ≠ cfg.syncEop := by
  simp only [valid, Bool.and_eq_true, decide_eq_true_eq, and_assoc]

/-- The chunk and page geometry of R7 at the values of R6: 32 chunks of 16 bytes, and a page of 8 of them. -/
theorem device_geometry :
    device.blk % device.chunk = 0 ∧ 14 ≤ device.chunk
      ∧ 2 ^ device.pageShift = device.page ∧ device.page % device.chunk = 0
      ∧ device.page ≤ (device.nchunk - device.fpc) * device.chunk
      ∧ device.page / 2 < 2 ^ 16 ∧ device.page < 2 ^ 16 := by
  simp

/-- The packet conditions of R7 at the values of R6: both replies fit the 63 bytes of a message, which its count bits
can express. -/
theorem device_packet :
    21 ≤ device.pkt ∧ device.ident.length ≤ device.pkt - 5 ∧ device.pkt - 1 ≤ device.hidCntMask.toNat := by
  simp

/-- The file conditions of R7 at the values of R6: each file fits one cluster, and the root directory's used entries fit
one sector. -/
theorem device_files :
    device.ident.length ≤ 512 ∧ device.html.length ≤ 512
      ∧ device.numInfo * 2 + 4 ≤ 512 ∧ device.numInfo + 1 ≤ 16 := by
  simp

/-- The codes that R7 keeps apart differ at the values of R6: UNSET and INDET, ACK_BYTE and SYNC_EOP. -/
theorem device_codes_differ : device.unset ≠ device.indet ∧ device.ackByte ≠ device.syncEop := by
  simp

end Config

/-- Settles O1, from R7's conditions in its groups: geometry, packets, files, codes. -/
theorem defaultConfigurationIsValid : Obligations.DefaultConfigurationIsValid := by
  obtain ⟨hblk, hchunk, hpow, hpage, hfit, hhalf, hsize⟩ := Config.device_geometry
  obtain ⟨hpkt, hreply, hcount⟩ := Config.device_packet
  obtain ⟨hident, hhtml, hfat, hroot⟩ := Config.device_files
  obtain ⟨hcodes, hack⟩ := Config.device_codes_differ
  have hcap : 1 ≤ Config.device.bitmapCap := by simp
  exact Config.valid_iff.mpr ⟨hblk, hchunk, hpow, hpage, hfit, hhalf, hsize, hcap, hpkt, hreply, hcount,
    hident, hhtml, hfat, hroot, hcodes, hack⟩

end Sys2Proof
end

section
/-! The proofs about `10_state.md`: the traces (R46), the counts (R25 to R28), the reset values (R55), the host
transactions that wait while a block is in flight (R23), and the invariant of the state. They rest on one normal form of
the operations (`exec_eq`): an operation leaves the state as it is, or, where it is enabled, leaves `effect`. The
invariant of the state is proved as two parts: what the state holds wherever the sequencer stands (`State.Stores`), and
what each sequencer position says (`State.Positioned`). -/

namespace Sys2Proof.Machine

/-! ### What an operation does -/

/-- The state that an enabled operation leaves, each in the terms of the model's own shared operations. -/
def effect (i : Instr) (s : State) : State :=
  match i with
  | .wrBegin _ d => { s with blkData := some d, ci := 0, upc := .blk }
  | .wrHdrLive c => { s.fetchChunk c with inert := false, wordAddr := wordAddrNew Config.device c, ci := 1 }
  | .wrHdrSkip c => s.inertHeader c
  | .wrHdrNomagic c => s.inertHeader c
  | .wrMeta c =>
    if s.inert then (s.fetchChunk c).toPayload else ((s.fetchChunk c).liveMetadata Config.device c).toPayload
  | .wrPayloadSkip c => (s.fetchChunk c).nextChunk
  | .wrPayloadOpen c => (s.fetchChunk c).openPage Config.device
  | .wrPayloadMid c => ((s.fetchChunk c).txAll c).nextChunk
  | .wrPayloadLast c => ((s.fetchChunk c).txAll c).handshake Config.device .waitPg
  | .wrEnd => if s.completes Config.device then s.complete.endBlock else s.endBlock
  | .hsDoneLa => s.programPage Config.device
  | .hsDonePg => s.commitPage Config.device
  | .rdBoot => s.answerRead (bootSector Config.device)
  | .rdFat lba => s.answerRead (fatSector Config.device lba)
  | .rdRoot lba => s.answerRead (rootSector Config.device lba)
  | .rdData lba => s.answerRead (dataSector Config.device lba)
  | .rdZero _ => s.answerRead zeroSector
  | .hidTunnel k body => { s with h2t := pushAll Config.device.h2tCap s.h2t (tunnelBytes k body) }
  | .hidBininfo tag => s.sendReply Config.device (replyHeader tag Config.device.stOk ++ bininfoData Config.device)
  | .hidInfo tag => s.sendReply Config.device (replyHeader tag Config.device.stOk ++ Config.device.ident)
  | .hidUnknown _ tag => s.sendReply Config.device (replyHeader tag Config.device.stInvalid)
  | .flushTick => { s with flushPending := true }
  | .relay => s.relayOut Config.device
  | .drain => s.drainOne
  | .rxAck =>
    { s.receive Config.device Config.device.ackByte with ackCount := nextAckCount Config.device s.ackCount }
  | .rxOther b => s.receive Config.device b
  | .wdtExpire => s.reboot (if s.wdt = .hs then .hsTimeout else .done)
  | .por => s.reboot .por
  | .loadAddress a => s.txAll (loadAddressBytes Config.device a)
  | .sync => s.sendSync Config.device
  | .progPage size term => s.txAll (progPageBytes Config.device size term)
  | .data c => s.txAll c
  | .resetStart => s.resetTarget
  | .resetFinish => s.restartTarget
  | .reply body => s.sendReply Config.device body
  | .relayPacket body => s.sendRelay Config.device body
  | .reboot cause => s.reboot cause

/-- WDT_EXPIRE: an armed watchdog reboots with the cause of its arming (R263, R264). -/
theorem execWdtExpire_eq (s : State) :
    execWdtExpire s = .next (if s.wdt ≠ .off then s.reboot (if s.wdt = .hs then .hsTimeout else .done) else s) := by
  unfold execWdtExpire wdtExpireFor
  cases hw : s.wdt <;> simp

/-- The normal form of every operation: its effect where R92 enables it, otherwise nothing (R11; log 2). -/
theorem exec_eq (i : Instr) (s : State) : exec i s = .next (if enabled i s then effect i s else s) := by
  cases i with
  | wdtExpire =>
    simp only [enabled_wdtExpire_iff]
    exact execWdtExpire_eq s
  | _ => rfl

/-- What a step can do: polling, or an operation that is not enabled, only consumes an event; an enabled operation,
decoded from what the fetch presents, has its effect. -/
theorem step_effect {s t : State} (h : step s = .next t) :
    ∃ ev, (∀ e ∈ ev, e ∈ s.events) ∧
      (t = { s with events := ev }
        ∨ ∃ u i, fetch Config.device s = .run u { s with events := ev } ∧ decode u.port u.bytes = .ok i
            ∧ enabled i { s with events := ev } = true ∧ t = effect i { s with events := ev }) := by
  obtain ⟨u, r, i, hf, hd, hx⟩ | hp := step_cases h
  · obtain ⟨ev, rfl, hev⟩ := fetch_run_state hf
    refine ⟨ev, hev, ?_⟩
    rw [exec_eq] at hx
    injection hx with hx
    split at hx
    · next hen => exact .inr ⟨u, i, hf, hd, hen, hx.symm⟩
    · exact .inl hx.symm
  · obtain ⟨ev, rfl, hev⟩ := fetch_poll_state hp
    exact ⟨ev, hev, .inl rfl⟩

/-- DRAIN: the head of `h2t`, if there is one, is popped and transmitted (R207). -/
theorem drainOne_eq (s : State) : s.drainOne =
    { s with h2t := s.h2t.tail, serOut := s.serOut ++ s.h2t.head?.toList.map SerEvent.tx } := by
  unfold State.drainOne
  split
  · next hnil => cases s; simp_all
  · next b rest hcons => simp [hcons, State.tx, State.txAll]

/-! ### The traces (R46) -/

/-- Each trace of `t` is the one of `s` with nothing or more at its end. -/
def TracesExtend (s t : State) : Prop := s.serOut <+: t.serOut ∧ s.hidOut <+: t.hidOut ∧ s.sysOut <+: t.sysOut

/-- An operation that transmits only. -/
theorem TracesExtend.ofSer {s t : State} (a : List SerEvent) (hser : t.serOut = s.serOut ++ a)
    (hhid : t.hidOut = s.hidOut) (hsys : t.sysOut = s.sysOut) : TracesExtend s t :=
  ⟨hser ▸ List.prefix_append _ _, hhid ▸ List.prefix_rfl, hsys ▸ List.prefix_rfl⟩

/-- An operation that leaves the traces. -/
theorem TracesExtend.ofSame {s t : State} (hser : t.serOut = s.serOut) (hhid : t.hidOut = s.hidOut)
    (hsys : t.sysOut = s.sysOut) : TracesExtend s t :=
  .ofSer [] (by rw [hser, List.append_nil]) hhid hsys

/-- An operation that sends one packet. -/
theorem TracesExtend.ofHid {s t : State} (p : List Byte) (hser : t.serOut = s.serOut)
    (hhid : t.hidOut = s.hidOut ++ [p]) (hsys : t.sysOut = s.sysOut) : TracesExtend s t :=
  ⟨hser ▸ List.prefix_rfl, hhid ▸ List.prefix_append _ _, hsys ▸ List.prefix_rfl⟩

/-- A reply is one packet (R234). -/
theorem tracesExtend_sendReply (body : List Byte) (s : State) : TracesExtend s (s.sendReply Config.device body) :=
  .ofHid _ rfl (State.sendReply_hidOut s Config.device body) rfl

/-- A reboot keeps the traces and notes its cause (R55, R262). -/
theorem tracesExtend_reboot (s : State) (cause : Cause) : TracesExtend s (s.reboot cause) :=
  ⟨List.prefix_rfl, List.prefix_rfl, List.prefix_append _ _⟩

/-- Every operation appends to a trace or leaves it, by the operation's kind of output. -/
theorem effect_extends_traces (i : Instr) (s : State) : TracesExtend s (effect i s) := by
  cases i with
  | wrMeta c => simp only [effect]; split <;> exact .ofSame rfl rfl rfl
  | wrEnd =>
    simp only [effect]
    split
    · exact .ofSer _ rfl rfl rfl
    · exact .ofSame rfl rfl rfl
  | wrPayloadOpen c =>
    simp only [effect, openPage_eq]
    exact .ofSer _ (List.append_assoc ..) rfl rfl
  | wrPayloadLast c =>
    simp only [effect, handshake_eq]
    exact .ofSer _ (List.append_assoc ..) rfl rfl
  | hsDoneLa =>
    simp only [effect, programPage_eq]
    exact .ofSer _ (List.append_assoc ..) rfl rfl
  | drain =>
    simp only [effect, drainOne_eq]
    exact .ofSer _ rfl rfl rfl
  | wrPayloadMid _ | loadAddress _ | sync | progPage _ _ | data _ | resetStart | resetFinish =>
    exact .ofSer _ rfl rfl rfl
  | hidBininfo _ | hidInfo _ | hidUnknown _ _ | reply _ => exact tracesExtend_sendReply _ s
  | relay | relayPacket _ => exact .ofHid _ rfl rfl rfl
  | wdtExpire | por | reboot _ => exact tracesExtend_reboot s _
  | _ => exact .ofSame rfl rfl rfl

/-- Settles O47: every operation extends the traces, and consuming an event leaves them. -/
theorem tracesOnlyGrow : Obligations.TracesOnlyGrow := by
  intro s t h
  obtain ⟨ev, -, rfl | ⟨u, i, -, -, -, rfl⟩⟩ := step_effect h
  · exact TracesExtend.ofSame rfl rfl rfl
  · exact effect_extends_traces i { s with events := ev }

/-! ### The counts (R25 to R28) -/

/-- What one step can do to `expCount`, `bitmap` and `writtenCount`. -/
inductive CountStep (s t : State) : Prop where
  /-- They are kept, and so is whether a completion has been. -/
  | kept (hexp : t.expCount = s.expCount) (hmap : t.bitmap = s.bitmap) (hcount : t.writtenCount = s.writtenCount)
      (hdone : t.wdt = .done ↔ s.wdt = .done)
  /-- A live metadata chunk declares `n` blocks and has index `k` (R135, R136). -/
  | recorded (n k : BitVec 32) (hexp : t.expCount = nextExpCount Config.device s.expCount n)
      (hmap : t.bitmap = recordIndex Config.device s.bitmap k)
      (hcount : t.writtenCount = countIndex Config.device s.bitmap s.writtenCount k) (hwdt : t.wdt = s.wdt)
  /-- A transfer is complete (R140). -/
  | completed (hexp : t.expCount = s.expCount) (hmap : t.bitmap = s.bitmap) (hcount : t.writtenCount = 0)
      (hwdt : t.wdt = .done)
  /-- A reboot, with its cause noted (R262). -/
  | rebooted (cause : Cause) (hsys : t.sysOut = s.sysOut ++ [cause]) (hmap : t.bitmap = 0)
      (hcount : t.writtenCount = 0)

/-- A reply writes the packet buffer and the packet trace, not the counts (R234). -/
theorem countStep_sendReply (body : List Byte) (s : State) : CountStep s (s.sendReply Config.device body) :=
  .kept rfl rfl rfl Iff.rfl

/-- WR_META records a live block's count and index, WR_END may complete, three operations reboot; no other one touches the
counts. -/
theorem countStep_effect (i : Instr) (s : State) : CountStep s (effect i s) := by
  cases i with
  | wrMeta c =>
    simp only [effect]
    split
    · exact .kept rfl rfl rfl Iff.rfl
    · exact .recorded (declCount Config.device c) (blockIndex Config.device c) rfl rfl rfl rfl
  | wrEnd =>
    simp only [effect]
    split
    · exact .completed rfl rfl rfl rfl
    · exact .kept rfl rfl rfl Iff.rfl
  | wdtExpire | por | reboot _ => exact .rebooted _ rfl rfl rfl
  | wrPayloadOpen c =>
    simp only [effect, openPage_eq]
    exact .kept rfl rfl rfl (armHandshake_done_iff s.wdt)
  | wrPayloadLast _ | sync => exact .kept rfl rfl rfl (armHandshake_done_iff s.wdt)
  | hsDoneLa =>
    simp only [effect, programPage_eq]
    exact .kept rfl rfl rfl (endHandshake_done_iff s.wdt)
  | hsDonePg => exact .kept rfl rfl rfl (endHandshake_done_iff s.wdt)
  | drain =>
    simp only [effect, drainOne_eq]
    exact .kept rfl rfl rfl Iff.rfl
  | hidBininfo _ | hidInfo _ | hidUnknown _ _ | reply _ => exact countStep_sendReply _ s
  | _ => exact .kept rfl rfl rfl Iff.rfl

/-- Every step is a `CountStep`: the fetch does not touch the counts. -/
theorem countStep_of_step {s t : State} (h : step s = .next t) : CountStep s t := by
  obtain ⟨ev, -, rfl | ⟨u, i, -, -, -, rfl⟩⟩ := step_effect h
  · exact .kept rfl rfl rfl Iff.rfl
  · cases countStep_effect i { s with events := ev } with
    | kept hexp hmap hcount hdone => exact .kept hexp hmap hcount hdone
    | recorded n k hexp hmap hcount hwdt => exact .recorded n k hexp hmap hcount hwdt
    | completed hexp hmap hcount hwdt => exact .completed hexp hmap hcount hwdt
    | rebooted cause hsys hmap hcount => exact .rebooted cause hsys hmap hcount

/-- INDET stays INDET whatever a block declares (R135 (d)). -/
theorem nextExpCount_indet (n : BitVec 32) : nextExpCount Config.device 0xFFFFFFFF n = 0xFFFFFFFF := by
  simp [nextExpCount]

/-- Settles O48: only a metadata chunk and a reboot write `expCount`, and a metadata chunk keeps INDET. -/
theorem indeterminateStaysUntilReboot : Obligations.IndeterminateStaysUntilReboot := by
  intro s t h hindet hsysOut
  cases countStep_of_step h with
  | kept hexp _ _ _ => rw [hexp, hindet]
  | recorded n k hexp _ _ _ => rw [hexp, hindet, nextExpCount_indet]
  | completed hexp _ _ _ => rw [hexp, hindet]
  | rebooted cause hsys _ _ => simp [hsysOut] at hsys

/-- Recording an index clears no bit (R136). -/
theorem recordIndex_keeps_bit {bitmap : BitVec 256} {j : Nat} (k : BitVec 32) (h : bitmap.getLsbD j = true) :
    (recordIndex Config.device bitmap k).getLsbD j = true := by
  unfold recordIndex
  split
  · next hfresh => rw [setBit_getLsbD _ _ _ ((isFresh_iff _ _).mp hfresh).1, h, Bool.true_or]
  · exact h

/-- Settles O49: only a metadata chunk and a reboot write `bitmap`, and a metadata chunk clears no bit. -/
theorem bitmapBitsStayUntilReboot : Obligations.BitmapBitsStayUntilReboot := by
  intro s t i h hbit hsysOut
  cases countStep_of_step h with
  | kept _ hmap _ _ => rw [hmap, hbit]
  | recorded n k _ hmap _ _ => rw [hmap, recordIndex_keeps_bit k hbit]
  | completed _ hmap _ _ => rw [hmap, hbit]
  | rebooted cause hsys _ _ => simp [hsysOut] at hsys

/-- Setting a predicate at a place where it was false counts that place's occurrences once more. -/
theorem countP_or_eq (p : Nat → Bool) {i : Nat} (hp : p i = false) (l : List Nat) :
    l.countP (fun j => p j || decide (j = i)) = l.countP p + l.count i := by
  induction l with
  | nil => rfl
  | cons a l ih =>
    rw [List.countP_cons, List.countP_cons, List.count_cons, ih]
    by_cases ha : a = i
    · subst ha; simp [hp]; omega
    · simp [ha]; omega

/-- Setting a bit that was clear adds one to the recorded indices (R136, R28). -/
theorem popcount_setBit {b : BitVec 256} {i : Nat} (hi : i < 256) (hb : b.getLsbD i = false) :
    popcount (setBit b i) = popcount b + 1 := by
  have hbits : (fun j => (setBit b i).getLsbD j) = fun j => b.getLsbD j || decide (j = i) :=
    funext fun j => setBit_getLsbD b i j hi
  have honce : (List.range 256).count i = 1 :=
    List.count_eq_one_of_mem List.nodup_range (List.mem_range.mpr hi)
  rw [popcount, hbits, countP_or_eq _ hb, honce, popcount]

/-- The bitmap has 256 bits. -/
theorem popcount_le (b : BitVec 256) : popcount b ≤ 256 := by
  simpa [popcount] using List.countP_le_length (p := fun i => b.getLsbD i) (l := List.range 256)

/-- Recording an index adds the same to the count and to the recorded indices; the count does not wrap (R136, R28). -/
theorem record_adds_equally (bitmap : BitVec 256) (count : BitVec 9) (k : BitVec 32)
    (hle : count.toNat ≤ popcount bitmap) :
    ∃ d, (countIndex Config.device bitmap count k).toNat = count.toNat + d
      ∧ popcount (recordIndex Config.device bitmap k) = popcount bitmap + d := by
  unfold countIndex recordIndex
  split
  · next hfresh =>
    obtain ⟨hk, hclear⟩ := (isFresh_iff _ _).mp hfresh
    have hpop := popcount_setBit hk hclear
    have hcap := popcount_le (setBit bitmap k.toNat)
    refine ⟨1, ?_, hpop⟩
    rw [BitVec.toNat_add]
    exact Nat.mod_eq_of_lt (by simp; omega)
  · exact ⟨0, rfl, rfl⟩

/-- Nothing is recorded and nothing counted: after a reset or a reboot (R55). -/
theorem countInv_of_zero {s : State} (hmap : s.bitmap = 0) (hcount : s.writtenCount = 0) : s.CountInv := by
  have hzero : s.writtenCount.toNat = popcount s.bitmap := by rw [hmap, hcount]; simp [popcount]
  exact ⟨hzero.le, fun _ => hzero⟩

/-- Settles O55: recording adds equally to both sides, a completion zeroes the count and sets DONE, a reboot zeroes
both. -/
theorem stepKeepsCountInvariant : Obligations.StepKeepsCountInvariant := by
  rintro s t ⟨hle, heq⟩ h
  cases countStep_of_step h with
  | kept _ hmap hcount hdone =>
    rw [← hmap, ← hcount] at hle heq
    exact ⟨hle, fun hw => heq (mt hdone.mpr hw)⟩
  | recorded n k _ hmap hcount hwdt =>
    obtain ⟨d, hc, hp⟩ := record_adds_equally s.bitmap s.writtenCount k hle
    rw [← hcount] at hc
    rw [← hmap] at hp
    exact ⟨by omega, fun hw => by rw [hc, hp, heq (hwdt ▸ hw)]⟩
  | completed _ _ hcount hwdt => exact ⟨by simp [hcount], fun hw => absurd hwdt hw⟩
  | rebooted cause _ hmap hcount => exact countInv_of_zero hmap hcount

/-! ### The reset values (R55) -/

/-- Settles O2: each register by its own law of the reboot; what is left of the state is the reset state's. -/
theorem rebootLeavesResetValues : Obligations.RebootLeavesResetValues := by
  intro s cause
  refine ⟨s.reboot_upc cause, s.reboot_ci cause, s.reboot_inert cause, s.reboot_wordAddr cause,
    s.reboot_pagesPending cause, s.reboot_started cause, s.reboot_blkData cause, s.reboot_expCount cause,
    s.reboot_bitmap cause, s.reboot_writtenCount cause, s.reboot_ackCount cause, s.reboot_wdt cause,
    s.reboot_h2t cause, s.reboot_t2h cause, s.reboot_flushPending cause, s.reboot_txBuf cause,
    s.reboot_resetLine cause, s.reboot_serOut cause, s.reboot_hidOut cause, s.reboot_sysOut cause, rfl⟩

/-! ### The host transactions during a block (R23) -/

/-- Where every event waits, none is next while a block is in flight. -/
theorem nextEvent_busy_eq_none {es : List Event} (h : ∀ e ∈ es, e.waits = true) : nextEvent true es = none := by
  induction es with
  | nil => rfl
  | cons e es ih =>
    obtain ⟨he, hes⟩ := List.forall_mem_cons.mp h
    simp [nextEvent, he, ih hes]

/-- While a block is in flight the fetch takes an event that is no host transaction and leaves those in order, or the
sequencer goes on with its own work. -/
theorem fetch_busy_cases {s : State} (hbusy : s.upc ≠ .idle) :
    (∃ e rest, e.waits = false ∧ rest.filter Event.waits = s.events.filter Event.waits
        ∧ fetch Config.device s = eventTurn Config.device e { s with events := rest })
      ∨ fetch Config.device s = sequencerTurn Config.device s := by
  have hidle : (!s.isIdle) = true := by simp [State.isIdle, hbusy]
  unfold fetch
  rw [hidle]
  split
  · next e rest hnext =>
    exact .inl ⟨e, rest, nextEvent_busy_not_waits hnext, nextEvent_busy_keeps_waiting hnext, rfl⟩
  · exact .inr rfl

/-- A port of a host transaction: a block write, a block read or a packet (R47, R50). -/
def HostPort (p : Port) : Prop := p = .blockWrite ∨ p = .blockRead ∨ p = .hidOut

/-- The sequencer's own turn presents no host transaction. -/
theorem sequencerTurn_not_host {s r : State} {u : Presented} (h : sequencerTurn Config.device s = .run u r) :
    ¬ HostPort u.port := by
  obtain ⟨-, ⟨d, -, -, hchunk⟩ | ⟨-, rfl⟩ | ⟨-, rfl⟩⟩ := sequencerTurn_run h
  · rcases hchunk with ⟨-, rfl⟩ | ⟨-, rfl⟩ | ⟨-, -, rfl⟩ | ⟨-, rfl⟩ <;> simp [HostPort]
  · simp [HostPort]
  · simp [HostPort]

/-- An event that does not wait presents no host transaction. -/
theorem eventTurn_not_host {e : Event} {s r : State} {u : Presented} (he : e.waits = false)
    (h : eventTurn Config.device e s = .run u r) : ¬ HostPort u.port := by
  cases e with
  | wr _ _ | rd _ | hid _ => cases he
  | seq => exact sequencerTurn_not_host h
  | _ => cases h; simp [HostPort]

/-- An event's turn that polls leaves the state without the event. -/
theorem eventTurn_poll {e : Event} {s t : State} (h : eventTurn Config.device e s = .poll t) : t = s := by
  cases e with
  | seq => exact sequencerTurn_poll h
  | _ => cases h

/-- Settles O14, from the two ways of the fetch during a block. -/
theorem hostTransactionsWaitDuringBlock : Obligations.HostTransactionsWaitDuringBlock := by
  intro s hbusy
  refine ⟨fun u t hrun => ?_, fun t hpoll => ?_, fun hwaits => ?_⟩
  · have hfacts : ¬ HostPort u.port ∧ t.events.filter Event.waits = s.events.filter Event.waits := by
      obtain ⟨e, rest, he, hrest, hfetch⟩ | hfetch := fetch_busy_cases hbusy
      · rw [hfetch] at hrun
        exact ⟨eventTurn_not_host he hrun, eventTurn_run hrun ▸ hrest⟩
      · rw [hfetch] at hrun
        exact ⟨sequencerTurn_not_host hrun, (sequencerTurn_run hrun).1 ▸ rfl⟩
    simpa [HostPort, not_or, and_assoc] using hfacts
  · obtain ⟨e, rest, -, hrest, hfetch⟩ | hfetch := fetch_busy_cases hbusy
    · rw [hfetch] at hpoll
      exact eventTurn_poll hpoll ▸ hrest
    · rw [hfetch] at hpoll
      exact sequencerTurn_poll hpoll ▸ rfl
  · have hnone : nextEvent (!s.isIdle) s.events = none := by
      simp [State.isIdle, hbusy, nextEvent_busy_eq_none hwaits]
    simp [fetch, hnone]

/-! ### The invariant of the state, in two parts -/

/-- The part of `State.Inv` that holds wherever the sequencer stands: buffers, rings, the reset line, the events. -/
structure State.Stores (s : State) : Prop where
  chunk_length : s.chunkBuf.length = 16
  packet_length : s.txBuf.length = 64
  h2t_capacity : s.h2t.length ≤ 128
  t2h_capacity : s.t2h.length ≤ 128
  line_released : s.resetLine = .released
  events_offered : ∀ e ∈ s.events, e.offered = true

/-- A whole block is latched (R21). -/
def State.Latched (s : State) : Prop := ∃ d, s.blkData = some d ∧ d.length = 512

/-- The sequencer is at position `k` of a page of a live block with pages pending (R138, R247). -/
def State.InPage (k : Nat) (s : State) : Prop :=
  2 ≤ s.ci.toNat ∧ s.ci.toNat < 32 ∧ (s.ci.toNat - 2) % 8 = k ∧ s.programs = true

/-- The part of `State.Inv` about the sequencer, position by position. -/
def State.Positioned (s : State) : Prop :=
  match s.upc with
  | .idle => s.ci.toNat ≤ 32 ∧ s.blkData = none ∧ s.wdt ≠ .hs
  | .blk => s.ci.toNat ≤ 32 ∧ s.Latched ∧ s.wdt ≠ .hs
  | .waitLa => s.InPage 0 ∧ s.Latched ∧ s.wdt ≠ .off
  | .waitPg => s.InPage 7 ∧ s.Latched ∧ s.wdt ≠ .off

section
variable {s : State}

/-- A page position lies before the end of the block. -/
theorem State.InPage.ci_le {k : Nat} (h : s.InPage k) : s.ci.toNat ≤ 32 := by
  obtain ⟨-, hlt, -, -⟩ := h
  exact hlt.le

theorem positioned_idle_iff (h : s.upc = .idle) :
    s.Positioned ↔ s.ci.toNat ≤ 32 ∧ s.blkData = none ∧ s.wdt ≠ .hs := by
  simp [State.Positioned, h]

theorem positioned_blk_iff (h : s.upc = .blk) :
    s.Positioned ↔ s.ci.toNat ≤ 32 ∧ s.Latched ∧ s.wdt ≠ .hs := by
  simp [State.Positioned, h]

theorem positioned_waitLa_iff (h : s.upc = .waitLa) :
    s.Positioned ↔ s.InPage 0 ∧ s.Latched ∧ s.wdt ≠ .off := by
  simp [State.Positioned, h]

theorem positioned_waitPg_iff (h : s.upc = .waitPg) :
    s.Positioned ↔ s.InPage 7 ∧ s.Latched ∧ s.wdt ≠ .off := by
  simp [State.Positioned, h]

/-- What the invariant says wherever the sequencer stands. -/
theorem State.Inv.stores (h : s.Inv) : s.Stores := { h with }

/-- Outside IDLE a whole block is latched. -/
theorem State.Inv.latched (h : s.Inv) (hbusy : s.upc ≠ .idle) : s.Latched := by
  obtain ⟨d, hd⟩ := Option.ne_none_iff_exists'.mp (mt h.block_latched.mpr hbusy)
  exact ⟨d, hd, h.block_length d hd⟩

/-- Outside the waits the handshake bound is not armed. -/
theorem State.Inv.not_hs (h : s.Inv) (hwait : ¬ s.waiting) : s.wdt ≠ .hs := mt h.armed_waits hwait

/-- What the invariant says at the sequencer's position. -/
theorem State.Inv.positioned (h : s.Inv) : s.Positioned := by
  cases hupc : s.upc with
  | idle =>
    exact (positioned_idle_iff hupc).mpr
      ⟨h.ci_range, h.block_latched.mp hupc, h.not_hs (by simp [State.waiting, hupc])⟩
  | blk =>
    exact (positioned_blk_iff hupc).mpr
      ⟨h.ci_range, h.latched (by simp [hupc]), h.not_hs (by simp [State.waiting, hupc])⟩
  | waitLa =>
    exact (positioned_waitLa_iff hupc).mpr
      ⟨h.wait_la hupc, h.latched (by simp [hupc]), h.wait_bounded (.inl hupc)⟩
  | waitPg =>
    exact (positioned_waitPg_iff hupc).mpr
      ⟨h.wait_pg hupc, h.latched (by simp [hupc]), h.wait_bounded (.inr hupc)⟩

/-- The two parts make the whole invariant. -/
theorem State.Stores.inv (h : s.Stores) (hpos : s.Positioned) : s.Inv := by
  cases hupc : s.upc with
  | idle =>
    obtain ⟨hci, hnone, hwdt⟩ := (positioned_idle_iff hupc).mp hpos
    exact { h with
      ci_range := hci
      block_latched := by simp [hupc, hnone]
      block_length := by simp [hnone]
      armed_waits := fun hw => absurd hw hwdt
      wait_bounded := by simp [State.waiting, hupc]
      wait_la := by simp [hupc]
      wait_pg := by simp [hupc] }
  | blk =>
    obtain ⟨hci, ⟨d, hd, hlen⟩, hwdt⟩ := (positioned_blk_iff hupc).mp hpos
    exact { h with
      ci_range := hci
      block_latched := by simp [hupc, hd]
      block_length := by simp [hd, hlen]
      armed_waits := fun hw => absurd hw hwdt
      wait_bounded := by simp [State.waiting, hupc]
      wait_la := by simp [hupc]
      wait_pg := by simp [hupc] }
  | waitLa =>
    obtain ⟨hpage, ⟨d, hd, hlen⟩, hwdt⟩ := (positioned_waitLa_iff hupc).mp hpos
    exact { h with
      ci_range := hpage.ci_le
      block_latched := by simp [hupc, hd]
      block_length := by simp [hd, hlen]
      armed_waits := fun _ => .inl hupc
      wait_bounded := fun _ => hwdt
      wait_la := fun _ => hpage
      wait_pg := by simp [hupc] }
  | waitPg =>
    obtain ⟨hpage, ⟨d, hd, hlen⟩, hwdt⟩ := (positioned_waitPg_iff hupc).mp hpos
    exact { h with
      ci_range := hpage.ci_le
      block_latched := by simp [hupc, hd]
      block_length := by simp [hd, hlen]
      armed_waits := fun _ => .inr hupc
      wait_bounded := fun _ => hwdt
      wait_la := by simp [hupc]
      wait_pg := fun _ => hpage }

end

/-! ### What a step on events of the spec runs -/

/-- What an interface or the sequencer presents decodes to a well-formed operation (R90, R92), never to SYNC alone. -/
theorem decode_wf_of_not_emitted {p : Port} {bs : List Byte} {i : Instr} (hp : ∀ u, p ≠ .emitted u)
    (h : decode p bs = .ok i) : i.wf = true ∧ i ≠ .sync := by
  cases p with
  | emitted u => exact absurd rfl (hp u)
  | blockWrite =>
    obtain ⟨hlen, rfl⟩ := ofLength_eq_ok_iff.mp h
    rw [Config.device_blk] at hlen
    exact ⟨(wf_wrBegin _ _).mpr (by simp [hlen]), nofun⟩
  | header =>
    obtain ⟨hlen, rfl⟩ := ofLength_eq_ok_iff.mp h
    obtain ⟨hm, hf, he⟩ | ⟨hm, hf, he⟩ | ⟨hm, he⟩ := decodeHeader_cases bs
    · rw [he]; exact ⟨(wf_wrHdrLive bs).mpr ⟨hlen, hm, hf⟩, nofun⟩
    · rw [he]; exact ⟨(wf_wrHdrSkip bs).mpr ⟨hlen, hm, hf⟩, nofun⟩
    · rw [he]; exact ⟨(wf_wrHdrNomagic bs).mpr ⟨hlen, hm⟩, nofun⟩
  | metadata =>
    obtain ⟨hlen, rfl⟩ := ofLength_eq_ok_iff.mp h
    exact ⟨(wf_wrMeta bs).mpr hlen, nofun⟩
  | payload f =>
    obtain ⟨hlen, rfl⟩ := ofLength_eq_ok_iff.mp h
    cases f with
    | skip => exact ⟨(wf_wrPayloadSkip bs).mpr hlen, nofun⟩
    | first => exact ⟨(wf_wrPayloadOpen bs).mpr hlen, nofun⟩
    | mid => exact ⟨(wf_wrPayloadMid bs).mpr hlen, nofun⟩
    | last => exact ⟨(wf_wrPayloadLast bs).mpr hlen, nofun⟩
  | blockRead =>
    obtain ⟨-, rfl⟩ := ofLength_eq_ok_iff.mp h
    obtain ⟨-, he⟩ | ⟨h1, h2, he⟩ | ⟨h1, h2, he⟩ | ⟨h1, h2, he⟩ | ⟨h1, he⟩ := decodeRead_cases (le32 bs 0)
    · rw [he]; exact ⟨rfl, nofun⟩
    · rw [he]; exact ⟨(wf_rdFat _).mpr ⟨h1, h2⟩, nofun⟩
    · rw [he]; exact ⟨(wf_rdRoot _).mpr ⟨h1, h2⟩, nofun⟩
    · rw [he]; exact ⟨(wf_rdData _).mpr ⟨h1, h2⟩, nofun⟩
    · rw [he]; exact ⟨(wf_rdZero _).mpr h1, nofun⟩
  | hidOut =>
    obtain ⟨hlen, rfl⟩ := ofLength_eq_ok_iff.mp h
    rw [Config.device_pkt] at hlen
    obtain ⟨-, he⟩ | ⟨-, -, he⟩ | ⟨-, -, he⟩ | ⟨-, h1, h2, he⟩ := decodeHid_cases bs
    · rw [he]; exact ⟨(wf_hidTunnel _ _).mpr (by simp [hlen]), nofun⟩
    · rw [he]; exact ⟨rfl, nofun⟩
    · rw [he]; exact ⟨rfl, nofun⟩
    · rw [he]; exact ⟨(wf_hidUnknown _ _).mpr ⟨h1, h2⟩, nofun⟩
  | rx =>
    obtain ⟨-, rfl⟩ := ofLength_eq_ok_iff.mp h
    obtain ⟨-, he⟩ | ⟨hb, he⟩ := decodeRx_cases (byteAt bs 0)
    · rw [he]; exact ⟨rfl, nofun⟩
    · rw [he]; exact ⟨(wf_rxOther _).mpr hb, nofun⟩
  | blockEnd | ackedLa | ackedPg | flushTick | relay | drain | wdt | por =>
    obtain ⟨-, rfl⟩ := ofLength_eq_ok_iff.mp h
    exact ⟨rfl, nofun⟩

/-! ### Every operation keeps what the state holds -/

section
variable {s : State}

/-- An operation that takes a chunk holds 16 bytes of it. -/
theorem State.Stores.fetchChunk (h : s.Stores) {c : List Byte} (hc : c.length = 16) : (s.fetchChunk c).Stores :=
  { h with chunk_length := hc }

/-- A handshake touches no store (R200). -/
theorem State.Stores.handshake (h : s.Stores) (k : Upc) : (s.handshake Config.device k).Stores := { h with }

/-- Opening a page leaves the reset line released (R191, R293). -/
theorem State.Stores.openPage (h : s.Stores) : (s.openPage Config.device).Stores := by
  rw [openPage_eq]
  exact { h with line_released := by simp [h.line_released] }

/-- A packet is one packet long. -/
theorem State.Stores.hidSend (h : s.Stores) {p : List Byte} (hp : p.length = 64) : (s.hidSend p).Stores :=
  { h with packet_length := hp }

/-- A reply of at most 63 bytes is one packet long (R233, R234). -/
theorem State.Stores.sendReply (h : s.Stores) {body : List Byte} (hb : body.length ≤ 63) :
    (s.sendReply Config.device body).Stores := by
  rw [sendReply_eq body hb]
  exact h.hidSend (framedPacket_length body hb)

/-- A relay sends one packet and shortens `t2h` (R240). -/
theorem State.Stores.relayOut (h : s.Stores) : (s.relayOut Config.device).Stores := by
  rw [relayOut_eq]
  exact { h with
    packet_length := framedPacket_length _ (by simp)
    t2h_capacity := (List.drop_sublist ..).length_le.trans h.t2h_capacity }

/-- A received byte is queued within the capacity (R205, R206). -/
theorem State.Stores.receive (h : s.Stores) (b : Byte) : (s.receive Config.device b).Stores :=
  { h with t2h_capacity := push_length_le b h.t2h_capacity }

/-- A reboot empties every store and releases the line (R55). -/
theorem State.Stores.reboot (h : s.Stores) (cause : Cause) : (s.reboot cause).Stores where
  chunk_length := by simp
  packet_length := by simp
  h2t_capacity := by simp
  t2h_capacity := by simp
  line_released := rfl
  events_offered := h.events_offered

end

/-- Every well-formed operation keeps the stores. -/
theorem effect_keeps_stores {i : Instr} {s : State} (hwf : i.wf = true) (h : s.Stores) : (effect i s).Stores := by
  cases i with
  | wrHdrLive c => exact { h with chunk_length := ((wf_wrHdrLive c).mp hwf).1 }
  | wrHdrSkip c => exact { h with chunk_length := ((wf_wrHdrSkip c).mp hwf).1 }
  | wrHdrNomagic c => exact { h with chunk_length := ((wf_wrHdrNomagic c).mp hwf).1 }
  | wrMeta c =>
    have hc := h.fetchChunk ((wf_wrMeta c).mp hwf)
    simp only [effect]
    split <;> exact { hc with }
  | wrPayloadSkip c => exact { h.fetchChunk ((wf_wrPayloadSkip c).mp hwf) with }
  | wrPayloadOpen c => exact (h.fetchChunk ((wf_wrPayloadOpen c).mp hwf)).openPage
  | wrPayloadMid c => exact { h.fetchChunk ((wf_wrPayloadMid c).mp hwf) with }
  | wrPayloadLast c => exact { h.fetchChunk ((wf_wrPayloadLast c).mp hwf) with }
  | wrEnd =>
    simp only [effect]
    split
    · exact { h with line_released := rfl }
    · exact { h with }
  | hsDoneLa =>
    simp only [effect, programPage_eq]
    exact { h with }
  | hidTunnel k body => exact { h with h2t_capacity := pushAll_length_le _ h.h2t_capacity }
  | hidBininfo tag => exact h.sendReply (by simp [replyHeader, bininfoData])
  | hidInfo tag => exact h.sendReply (by simp [replyHeader])
  | hidUnknown cmd tag => exact h.sendReply (by simp [replyHeader])
  | relay => exact h.relayOut
  | drain =>
    simp only [effect, drainOne_eq]
    exact { h with h2t_capacity := (List.tail_sublist _).length_le.trans h.h2t_capacity }
  | rxAck => exact { h.receive _ with }
  | rxOther b => exact h.receive b
  | wdtExpire | por | reboot _ => exact h.reboot _
  | resetStart | resetFinish => exact { h with line_released := rfl }
  | reply body => exact h.sendReply ((wf_reply body).mp hwf)
  | relayPacket body => exact h.hidSend (framedPacket_length body ((wf_relayPacket body).mp hwf).2)
  | _ => exact { h with }

/-! ### Every enabled operation keeps the position's part -/

/-- `ci + 1` does not wrap below the last chunk. -/
theorem next_ci_le {ci : BitVec 6} (h : ci.toNat < 32) : (ci + 1).toNat ≤ 32 := by
  rw [BitVec.toNat_add]
  exact (Nat.mod_le _ _).trans (by simp; omega)

/-- After a reboot the sequencer is in IDLE with nothing latched and nothing armed (R55). -/
theorem positioned_reboot (s : State) (cause : Cause) : (s.reboot cause).Positioned :=
  Iff.mpr (positioned_idle_iff rfl) ⟨by simp, rfl, nofun⟩

/-- A reply leaves the sequencer where it stands (R234). -/
theorem sendReply_keeps_position {s : State} (h : s.Positioned) (body : List Byte) :
    (s.sendReply Config.device body).Positioned := h

/-- Every operation of the device itself moves the sequencer to a position that the invariant allows; SYNC alone, which no
interface offers, could arm the handshake bound outside a wait (log 5). -/
theorem effect_keeps_position {i : Instr} {s : State} (hwf : i.wf = true) (hsync : i ≠ .sync) (hen : enabled i s = true)
    (h : s.Positioned) : (effect i s).Positioned := by
  cases i with
  | wrBegin lba d =>
    obtain ⟨-, -, hwdt⟩ := (positioned_idle_iff ((isIdle_iff s).mp hen)).mp h
    exact Iff.mpr (positioned_blk_iff rfl) ⟨by simp [effect], ⟨d, rfl, (wf_wrBegin lba d).mp hwf⟩, hwdt⟩
  | wrHdrLive _ | wrHdrSkip _ | wrHdrNomagic _ =>
    have hupc := ((atHeader_iff s).mp hen).1
    obtain ⟨-, hlatch, hwdt⟩ := (positioned_blk_iff hupc).mp h
    exact Iff.mpr (positioned_blk_iff hupc) ⟨by simp [effect], hlatch, hwdt⟩
  | wrMeta c =>
    have hupc := ((atMetadata_iff s).mp hen).1
    obtain ⟨-, hlatch, hwdt⟩ := (positioned_blk_iff hupc).mp h
    simp only [effect]
    split <;> exact Iff.mpr (positioned_blk_iff hupc) ⟨by simp [State.toPayload], hlatch, hwdt⟩
  | wrPayloadSkip c =>
    obtain ⟨⟨hupc, -, hlt⟩, -⟩ := (due_skip_iff s).mp hen
    obtain ⟨-, hlatch, hwdt⟩ := (positioned_blk_iff hupc).mp h
    exact Iff.mpr (positioned_blk_iff hupc) ⟨next_ci_le hlt, hlatch, hwdt⟩
  | wrPayloadMid c =>
    obtain ⟨⟨hupc, -, hlt⟩, -⟩ := (due_mid_iff s).mp hen
    obtain ⟨-, hlatch, hwdt⟩ := (positioned_blk_iff hupc).mp h
    exact Iff.mpr (positioned_blk_iff hupc) ⟨next_ci_le hlt, hlatch, hwdt⟩
  | wrPayloadOpen c =>
    obtain ⟨⟨hupc, hge, hlt⟩, hprog, hpos⟩ := (due_first_iff s).mp hen
    obtain ⟨-, hlatch, -⟩ := (positioned_blk_iff hupc).mp h
    simp only [effect, openPage_eq]
    exact Iff.mpr (positioned_waitLa_iff rfl) ⟨⟨hge, hlt, hpos, hprog⟩, hlatch, armHandshake_ne_off s.wdt⟩
  | wrPayloadLast c =>
    obtain ⟨⟨hupc, hge, hlt⟩, hprog, hpos⟩ := (due_last_iff s).mp hen
    obtain ⟨-, hlatch, -⟩ := (positioned_blk_iff hupc).mp h
    exact Iff.mpr (positioned_waitPg_iff rfl) ⟨⟨hge, hlt, hpos, hprog⟩, hlatch, armHandshake_ne_off s.wdt⟩
  | wrEnd =>
    have hupc := ((atEnd_iff s).mp hen).1
    obtain ⟨hci, -, hwdt⟩ := (positioned_blk_iff hupc).mp h
    simp only [effect]
    split
    · exact Iff.mpr (positioned_idle_iff rfl) ⟨hci, rfl, nofun⟩
    · exact Iff.mpr (positioned_idle_iff rfl) ⟨hci, rfl, hwdt⟩
  | hsDoneLa =>
    obtain ⟨⟨-, hlt, -, -⟩, hlatch, -⟩ := (positioned_waitLa_iff ((acked_iff s _).mp hen).1).mp h
    simp only [effect, programPage_eq]
    exact Iff.mpr (positioned_blk_iff rfl) ⟨next_ci_le hlt, hlatch, endHandshake_ne_hs s.wdt⟩
  | hsDonePg =>
    obtain ⟨⟨-, hlt, -, -⟩, hlatch, -⟩ := (positioned_waitPg_iff ((acked_iff s _).mp hen).1).mp h
    exact Iff.mpr (positioned_blk_iff rfl) ⟨next_ci_le hlt, hlatch, endHandshake_ne_hs s.wdt⟩
  | drain =>
    simp only [effect, drainOne_eq]
    exact h
  | wdtExpire | por | reboot _ => exact positioned_reboot s _
  | sync => exact absurd rfl hsync
  | hidBininfo _ | hidInfo _ | hidUnknown _ _ | reply _ => exact sendReply_keeps_position h _
  | _ => exact h

/-- Settles O54: the fetch presents a well-formed operation of the device, which keeps both parts of the invariant. -/
theorem stepKeepsStateInvariant : Obligations.StepKeepsStateInvariant := by
  intro s t h hstep
  obtain ⟨ev, hev, ht⟩ := step_effect hstep
  have hfetched : { s with events := ev }.Inv :=
    { h with events_offered := fun e he => h.events_offered e (hev e he) }
  obtain rfl | ⟨u, i, hf, hd, hen, rfl⟩ := ht
  · exact hfetched
  · obtain ⟨hwf, hsync⟩ := decode_wf_of_not_emitted (fetch_not_emitted h.events_offered hf) hd
    exact (effect_keeps_stores hwf hfetched.stores).inv (effect_keeps_position hwf hsync hen hfetched.positioned)

/-! ### The reset state -/

/-- The reset state's stores are empty and its reset line is released (R55). -/
theorem stores_reset : State.reset.Stores where
  chunk_length := by decide
  packet_length := by decide
  h2t_capacity := by decide
  t2h_capacity := by decide
  line_released := rfl
  events_offered := nofun

/-- Settles O53: at reset the stores are empty, the sequencer is in IDLE, nothing is counted, the word address is 0. -/
theorem resetMeetsTheInvariants : Obligations.ResetMeetsTheInvariants := by
  have hpos : State.reset.Positioned := Iff.mpr (positioned_idle_iff rfl) ⟨by decide, rfl, nofun⟩
  exact ⟨stores_reset.inv hpos, countInv_of_zero rfl rfl, ⟨by decide, fun hbusy => absurd rfl hbusy⟩⟩

end Sys2Proof.Machine
end

section
/-! The proofs about `20_memory.md`: the step as one operation of the total order (R80), the wait in which nothing is sent
(R82), the tunnel that rests while a block is in flight (R71, R85) and the bound of the word address (R62). The first
part says once where R92 enables each operation (`placeOf`); that the device sends nothing is then a matter of which
places the sequencer's position leaves. -/

namespace Sys2Proof.Machine

/-! ### The step (R80) -/

/-- Settles O11: a step is the run of the fetched turn, and a turn whose unit decodes runs the instruction. -/
theorem stepRunsDecodedUnit : Obligations.StepRunsDecodedUnit := by
  refine ⟨fun s t u i hfetch hdecode => ?_, fun cfg s t u i hfetch hdecode => ?_, stepFor_device⟩
  · rw [step, hfetch, runTurn_run hdecode]
  · rw [stepFor, hfetch, runTurn_run hdecode]

/-! ### Where an operation is enabled (R92) -/

/-- The sequencer positions at which R92 enables a group of operations. -/
inductive Place where
  /-- Between tasks. -/
  | idle
  /-- A block is in flight, ready for its next chunk or its end. -/
  | block
  /-- A wait that has been answered. -/
  | answered
  /-- Any position: the receive interrupt, the watchdog, power-on. -/
  | any
  /-- No position of the device: an emitted unit alone, which no interface offers (log 5). -/
  | emitted

/-- The place of each operation. -/
def placeOf (i : Instr) : Place :=
  match i with
  | .wrBegin _ _ => .idle
  | .wrHdrLive _ => .block
  | .wrHdrSkip _ => .block
  | .wrHdrNomagic _ => .block
  | .wrMeta _ => .block
  | .wrPayloadSkip _ => .block
  | .wrPayloadOpen _ => .block
  | .wrPayloadMid _ => .block
  | .wrPayloadLast _ => .block
  | .wrEnd => .block
  | .hsDoneLa => .answered
  | .hsDonePg => .answered
  | .rdBoot => .idle
  | .rdFat _ => .idle
  | .rdRoot _ => .idle
  | .rdData _ => .idle
  | .rdZero _ => .idle
  | .hidTunnel _ _ => .idle
  | .hidBininfo _ => .idle
  | .hidInfo _ => .idle
  | .hidUnknown _ _ => .idle
  | .flushTick => .idle
  | .relay => .idle
  | .drain => .idle
  | .rxAck => .any
  | .rxOther _ => .any
  | .wdtExpire => .any
  | .por => .any
  | .loadAddress _ => .emitted
  | .sync => .emitted
  | .progPage _ _ => .emitted
  | .data _ => .emitted
  | .resetStart => .emitted
  | .resetFinish => .emitted
  | .reply _ => .emitted
  | .relayPacket _ => .emitted
  | .reboot _ => .emitted

/-- What a place says of the state. -/
def Place.Holds (p : Place) (s : State) : Prop :=
  match p with
  | .idle => s.upc = .idle
  | .block => s.upc = .blk
  | .answered => s.waiting ∧ s.ackCount ≠ 0
  | .any => True
  | .emitted => True

/-- A payload chunk of any form is due only in BLK (R137, R141). -/
theorem upc_of_payloadDue {s : State} {f : PayloadForm} (h : s.payloadDue Config.device f = true) : s.upc = .blk := by
  rw [State.payloadDue, Bool.and_eq_true, atPayload_iff] at h
  obtain ⟨⟨hupc, -⟩, -⟩ := h
  exact hupc

/-- An enabled operation is at its place. -/
theorem placeOf_holds {i : Instr} {s : State} (hen : enabled i s = true) : (placeOf i).Holds s := by
  cases i with
  | wrBegin _ _ | rdBoot | rdFat _ | rdRoot _ | rdData _ | rdZero _ | hidTunnel _ _ | hidBininfo _ | hidInfo _
  | hidUnknown _ _ | flushTick => exact (isIdle_iff s).mp hen
  | relay => exact ((canRelay_iff s).mp hen).1
  | drain => exact ((canDrain_iff s).mp hen).1
  | wrHdrLive _ | wrHdrSkip _ | wrHdrNomagic _ => exact ((atHeader_iff s).mp hen).1
  | wrMeta _ => exact ((atMetadata_iff s).mp hen).1
  | wrPayloadSkip _ | wrPayloadOpen _ | wrPayloadMid _ | wrPayloadLast _ => exact upc_of_payloadDue hen
  | wrEnd => exact ((atEnd_iff s).mp hen).1
  | hsDoneLa => exact ((acked_iff s _).mp hen).imp_left .inl
  | hsDonePg => exact ((acked_iff s _).mp hen).imp_left .inr
  | _ => exact trivial

/-- What an interface or the sequencer presents decodes to an operation of the device, not to an emitted unit (R92). -/
theorem placeOf_ne_emitted_of_decode {p : Port} {bs : List Byte} {i : Instr} (hp : ∀ u, p ≠ .emitted u)
    (h : decode p bs = .ok i) : placeOf i ≠ .emitted := by
  cases p with
  | emitted u => exact absurd rfl (hp u)
  | header =>
    obtain ⟨-, rfl⟩ := ofLength_eq_ok_iff.mp h
    rcases decodeHeader_cases bs with ⟨-, -, he⟩ | ⟨-, -, he⟩ | ⟨-, he⟩ <;> (rw [he]; nofun)
  | payload f =>
    obtain ⟨-, rfl⟩ := ofLength_eq_ok_iff.mp h
    cases f <;> nofun
  | blockRead =>
    obtain ⟨-, rfl⟩ := ofLength_eq_ok_iff.mp h
    rcases decodeRead_cases (le32 bs 0) with ⟨-, he⟩ | ⟨-, -, he⟩ | ⟨-, -, he⟩ | ⟨-, -, he⟩ | ⟨-, he⟩ <;>
      (rw [he]; nofun)
  | hidOut =>
    obtain ⟨-, rfl⟩ := ofLength_eq_ok_iff.mp h
    rcases decodeHid_cases bs with ⟨-, he⟩ | ⟨-, -, he⟩ | ⟨-, -, he⟩ | ⟨-, -, -, he⟩ <;> (rw [he]; nofun)
  | rx =>
    obtain ⟨-, rfl⟩ := ofLength_eq_ok_iff.mp h
    rcases decodeRx_cases (byteAt bs 0) with ⟨-, he⟩ | ⟨-, he⟩ <;> (rw [he]; nofun)
  | blockWrite | metadata | blockEnd | ackedLa | ackedPg | flushTick | relay | drain | wdt | por =>
    obtain ⟨-, rfl⟩ := ofLength_eq_ok_iff.mp h
    nofun

/-- A step on events of the spec consumes events only, or has the effect of an operation of the device at its place. -/
theorem step_effect_at_place {s t : State} (ho : ∀ e ∈ s.events, e.offered = true) (h : step s = .next t) :
    ∃ ev, t = { s with events := ev }
      ∨ ∃ i, placeOf i ≠ .emitted ∧ (placeOf i).Holds { s with events := ev } ∧ t = effect i { s with events := ev } := by
  obtain ⟨ev, -, ht | ⟨u, i, hfetch, hdecode, hen, ht⟩⟩ := step_effect h
  · exact ⟨ev, .inl ht⟩
  · exact ⟨ev, .inr ⟨i, placeOf_ne_emitted_of_decode (fetch_not_emitted ho hfetch) hdecode, placeOf_holds hen, ht⟩⟩

/-! ### Nothing is sent in an unanswered wait (R82, R201) -/

/-- A received byte, the watchdog and power-on send nothing: the bytes are queued, a reboot keeps the traces. -/
theorem effect_any_sends_nothing {i : Instr} (hplace : placeOf i = .any) (s : State) :
    (effect i s).serOut = s.serOut ∧ (effect i s).hidOut = s.hidOut := by
  cases i with
  | rxAck | rxOther _ | wdtExpire | por => exact ⟨rfl, rfl⟩
  | _ => cases hplace

/-- An unanswered wait is the place of no operation but those of any position, emitted units aside. -/
theorem Place.eq_any_of_waiting {p : Place} {s : State} (hwait : s.waiting) (hack : s.ackCount = 0)
    (hemit : p ≠ .emitted) (hplace : p.Holds s) : p = .any := by
  cases p with
  | any => rfl
  | emitted => exact absurd rfl hemit
  | idle => simp [State.waiting, show s.upc = .idle from hplace] at hwait
  | block => simp [State.waiting, show s.upc = .blk from hplace] at hwait
  | answered =>
    obtain ⟨-, hcounted⟩ := hplace
    exact absurd hack hcounted

/-- Settles O51: of the operations enabled in an unanswered wait none sends. -/
theorem nothingIsSentWhileWaiting : Obligations.NothingIsSentWhileWaiting := by
  intro s t hwait hack hoffered hstep
  obtain ⟨ev, rfl | ⟨i, hemit, hplace, rfl⟩⟩ := step_effect_at_place hoffered hstep
  · exact ⟨rfl, rfl⟩
  · exact effect_any_sends_nothing (Place.eq_any_of_waiting hwait hack hemit hplace) { s with events := ev }

/-! ### The tunnel during a block (R71, R85) -/

/-- An operation of the device that does not need IDLE leaves `h2t` and sends no packet, or it reboots: the tunnel, the
commands, the relay and the drain all need IDLE. -/
theorem effect_rests_tunnel {i : Instr} (hidle : placeOf i ≠ .idle) (hemit : placeOf i ≠ .emitted) (s : State) :
    ((effect i s).h2t = s.h2t ∧ (effect i s).hidOut = s.hidOut)
      ∨ ∃ cause, (effect i s).sysOut = s.sysOut ++ [cause] := by
  cases i with
  | wdtExpire | por => exact .inr ⟨_, rfl⟩
  | wrMeta _ | wrEnd =>
    simp only [effect]
    split <;> exact .inl ⟨rfl, rfl⟩
  | wrPayloadOpen _ =>
    simp only [effect, openPage_eq]
    exact .inl ⟨rfl, rfl⟩
  | hsDoneLa => exact .inl (by simp [effect, programPage_eq])
  | wrHdrLive _ | wrHdrSkip _ | wrHdrNomagic _ | wrPayloadSkip _ | wrPayloadMid _ | wrPayloadLast _ | hsDonePg | rxAck
  | rxOther _ => exact .inl ⟨rfl, rfl⟩
  | loadAddress _ | sync | progPage _ _ | data _ | resetStart | resetFinish | reply _ | relayPacket _ | reboot _ =>
    exact absurd rfl hemit
  | _ => exact absurd rfl hidle

/-- A position outside IDLE is not the place of the operations that need IDLE. -/
theorem Place.ne_idle_of_busy {p : Place} {s : State} (hbusy : s.upc ≠ .idle) (hplace : p.Holds s) : p ≠ .idle := by
  rintro rfl
  exact hbusy hplace

/-- Settles O52: outside IDLE an operation of the device rests the tunnel or notes a reboot. -/
theorem tunnelRestsDuringBlock : Obligations.TunnelRestsDuringBlock := by
  intro s t hinv hbusy hstep hsysOut
  obtain ⟨ev, rfl | ⟨i, hemit, hplace, rfl⟩⟩ := step_effect_at_place hinv.events_offered hstep
  · exact ⟨rfl, rfl⟩
  · have hidle := Place.ne_idle_of_busy hbusy hplace
    obtain hrests | ⟨cause, hreboot⟩ := effect_rests_tunnel hidle hemit { s with events := ev }
    · exact hrests
    · simp [hsysOut] at hreboot

/-! ### The word address (R62) -/

/-- The address that a live header gives is half a 16-bit byte address (R96). -/
theorem wordAddrNew_le (c : List Byte) : (wordAddrNew Config.device c).toNat ≤ 0x7FFF := by
  rw [wordAddrNew, byteAddr_device, BitVec.toNat_ushiftRight, Nat.shiftRight_eq_div_pow]
  have hlt := (le16 c 12).isLt
  omega

/-- `ci + 1` before the end of the block. -/
theorem next_ci_toNat {ci : BitVec 6} (h : ci.toNat < 32) : (ci + 1).toNat = ci.toNat + 1 := by
  rw [BitVec.toNat_add]
  exact Nat.mod_eq_of_lt (by simp; omega)

theorem le_next_ci {ci : BitVec 6} (h : ci.toNat < 32) : ci.toNat ≤ (ci + 1).toNat := by
  rw [next_ci_toNat h]
  exact Nat.le_succ _

section
variable {s t : State}

/-- The address is kept and the block is over, inert or at its header: only the outer bound speaks. -/
theorem State.AddressBound.ofNotLive (h : s.AddressBound) (haddr : t.wordAddr = s.wordAddr)
    (hnot : t.upc = .idle ∨ t.inert = true ∨ t.ci.toNat = 0) : t.AddressBound where
  word_le := haddr ▸ h.word_le
  live_le hbusy hlive hci := by simp [hbusy, hlive, hci] at hnot

/-- The address is kept and `ci` stays or moves on in the same block, past its header: the bound at a page position only
grows with `ci`. -/
theorem State.AddressBound.ofAdvance (h : s.AddressBound) (haddr : t.wordAddr = s.wordAddr)
    (hinert : t.inert = s.inert) (hbusy : s.upc ≠ .idle) (hci : s.ci.toNat ≠ 0) (hle : s.ci.toNat ≤ t.ci.toNat) :
    t.AddressBound where
  word_le := haddr ▸ h.word_le
  live_le _ hlive _ := by
    have hbound := h.live_le hbusy (hinert ▸ hlive) hci
    rw [haddr]
    omega

/-- A live header chunk sets an address below both bounds (R132). -/
theorem State.AddressBound.ofHeader {c : List Byte} (haddr : t.wordAddr = wordAddrNew Config.device c) :
    t.AddressBound := by
  have hnew := wordAddrNew_le c
  rw [← haddr] at hnew
  exact ⟨by omega, fun _ _ _ => by omega⟩

/-- Committing a page adds 64 words exactly where `ci` passes a page position (R195). -/
theorem State.AddressBound.commitPage (h : s.AddressBound) (hupc : s.upc = .waitPg) (hpage : s.InPage 7) :
    (s.commitPage Config.device).AddressBound := by
  obtain ⟨hge, hlt, hpos, hprog⟩ := hpage
  have hbound := h.live_le (by simp [hupc]) ((programs_iff s).mp hprog).1 (by omega)
  have hci := next_ci_toNat hlt
  have haddr : (s.wordAddr + 64).toNat = s.wordAddr.toNat + 64 := by
    rw [BitVec.toNat_add]
    exact Nat.mod_eq_of_lt (by simp; omega)
  rw [commitPage_eq]
  exact ⟨by simp only [haddr]; omega, fun _ _ _ => by simp only [haddr, hci]; omega⟩

/-- After a reboot the address is 0 (R55). -/
theorem addressBound_reboot (s : State) (cause : Cause) : (s.reboot cause).AddressBound :=
  ⟨by simp, fun hbusy => absurd rfl hbusy⟩

/-- A reply leaves the address and the position (R234). -/
theorem State.AddressBound.sendReply (h : s.AddressBound) (body : List Byte) :
    (s.sendReply Config.device body).AddressBound := ⟨h.word_le, h.live_le⟩

end

/-- Every enabled operation keeps the bound: the header sets the address, the commit of a page advances it together with
the page position, and the others leave it while `ci` does not go back inside a live block. -/
theorem effect_keeps_addressBound {i : Instr} {s : State} (hen : enabled i s = true) (hpos : s.Positioned)
    (h : s.AddressBound) : (effect i s).AddressBound := by
  cases i with
  | wrBegin _ _ => exact h.ofNotLive rfl (.inr (.inr rfl))
  | wrHdrLive c => exact .ofHeader rfl
  | wrHdrSkip _ | wrHdrNomagic _ => exact h.ofNotLive rfl (.inr (.inl rfl))
  | wrMeta c =>
    obtain ⟨hupc, hci⟩ := (atMetadata_iff s).mp hen
    have hle : s.ci.toNat ≤ (2#6).toNat := by simp [hci]
    simp only [effect]
    split <;> exact h.ofAdvance rfl rfl (by simp [hupc]) (by omega) hle
  | wrPayloadSkip c =>
    obtain ⟨⟨hupc, hge, hlt⟩, -⟩ := (due_skip_iff s).mp hen
    exact h.ofAdvance rfl rfl (by simp [hupc]) (by omega) (le_next_ci hlt)
  | wrPayloadMid c =>
    obtain ⟨⟨hupc, hge, hlt⟩, -⟩ := (due_mid_iff s).mp hen
    exact h.ofAdvance rfl rfl (by simp [hupc]) (by omega) (le_next_ci hlt)
  | wrPayloadOpen c =>
    obtain ⟨⟨hupc, hge, -⟩, -⟩ := (due_first_iff s).mp hen
    simp only [effect, openPage_eq]
    exact h.ofAdvance rfl rfl (by simp [hupc]) (by omega) le_rfl
  | wrPayloadLast c =>
    obtain ⟨⟨hupc, hge, -⟩, -⟩ := (due_last_iff s).mp hen
    exact h.ofAdvance rfl rfl (by simp [hupc]) (by omega) le_rfl
  | wrEnd =>
    simp only [effect]
    split <;> exact h.ofNotLive rfl (.inl rfl)
  | hsDoneLa =>
    have hupc := ((acked_iff s _).mp hen).1
    obtain ⟨⟨hge, hlt, -⟩, -⟩ := (positioned_waitLa_iff hupc).mp hpos
    simp only [effect, programPage_eq]
    exact h.ofAdvance rfl rfl (by simp [hupc]) (by omega) (le_next_ci hlt)
  | hsDonePg =>
    have hupc := ((acked_iff s _).mp hen).1
    obtain ⟨hpage, -⟩ := (positioned_waitPg_iff hupc).mp hpos
    exact h.commitPage hupc hpage
  | wdtExpire | por | reboot _ => exact addressBound_reboot s _
  | hidBininfo _ | hidInfo _ | hidUnknown _ _ | reply _ => exact h.sendReply _
  | drain =>
    simp only [effect, drainOne_eq]
    exact { h with }
  | _ => exact { h with }

/-- Settles O56: consuming an event leaves address and position, and every enabled operation keeps the bound. -/
theorem stepKeepsAddressBound : Obligations.StepKeepsAddressBound := by
  intro s t hinv h hstep
  obtain ⟨ev, -, rfl | ⟨u, i, -, -, hen, rfl⟩⟩ := step_effect hstep
  · exact { h with }
  · exact effect_keeps_addressBound hen hinv.positioned { h with }

end Sys2Proof.Machine
end

section
/-! The proofs about `30_encoding.md`: the decoder and the encoder undo each other (R90 to R117), every input selects one
operation (R93, R106, R107, R119), and the three command replies (R110 to R112). The layer below says for each format
what its decoder answers; what an emitted unit decodes to is well-formed and is encoded by the bytes it was read from
(`emitted_of_decode`), so each round trip is a case split over the ports or over the instructions. -/

namespace Sys2Proof

/-! ### Byte order, read and written back (R9) -/

/-- The first four bytes are the `LE32` of the value they hold. -/
theorem bytesLE32_le32_append_drop {bs : List Byte} (h : 4 ≤ bs.length) : bytesLE32 (le32 bs 0) ++ bs.drop 4 = bs := by
  match bs, h with
  | a :: b :: c :: d :: rest, _ =>
    have hread : bytesLE32 (le32 (a :: b :: c :: d :: rest) 0) = [a, b, c, d] := bytesLE32_join a b c d
    simp [hread]

/-- Four bytes are the `LE32` of the value they hold. -/
theorem bytesLE32_le32 {bs : List Byte} (h : bs.length = 4) : bytesLE32 (le32 bs 0) = bs := by
  simpa [List.drop_of_length_le h.le] using bytesLE32_le32_append_drop h.ge

/-- Byte `i` of the `n` bytes at offset `off` is byte `off + i` of the array. -/
theorem byteAt_take_drop {a : List Byte} {off n i : Nat} (h : i < n) :
    byteAt ((a.drop off).take n) i = byteAt a (off + i) := by
  simp [byteAt, h]

/-- Byte `i` is read from the first `n` bytes alone. -/
theorem byteAt_take {a : List Byte} {n i : Nat} (h : i < n) : byteAt (a.take n) i = byteAt a i := by
  simpa using byteAt_take_drop (a := a) (off := 0) h

/-! ### Header and payload chunks, reads, received bytes -/

/-- A chunk with the magic and a clear skip flag is a live header (R93). -/
theorem decodeHeader_live {c : List Byte} (hmagic : c.take 8 = Config.device.magic) (hflag : skipFlag c = false) :
    decodeHeader Config.device c = .wrHdrLive c := by
  simp [decodeHeader, (magicOk_iff c).mpr hmagic, hflag]

/-- A chunk with the magic and a set skip flag is a skipped header (R93). -/
theorem decodeHeader_skip {c : List Byte} (hmagic : c.take 8 = Config.device.magic) (hflag : skipFlag c = true) :
    decodeHeader Config.device c = .wrHdrSkip c := by
  simp [decodeHeader, (magicOk_iff c).mpr hmagic, hflag]

/-- A chunk without the magic is no UF2 header, whatever its flag (R93). -/
theorem decodeHeader_nomagic {c : List Byte} (hmagic : c.take 8 ≠ Config.device.magic) :
    decodeHeader Config.device c = .wrHdrNomagic c := by
  have hno : ¬ magicOk Config.device c = true := mt (magicOk_iff c).mp hmagic
  simp [decodeHeader, hno]

/-- Whatever its class, a header chunk is encoded by its own bytes (R93). -/
theorem encode_decodeHeader (c : List Byte) : encode (decodeHeader Config.device c) = ⟨.header, c⟩ := by
  obtain ⟨-, -, he⟩ | ⟨-, -, he⟩ | ⟨-, he⟩ := decodeHeader_cases c <;> (rw [he]; rfl)

/-- Whatever its form, a payload chunk is encoded by its own bytes (R98). -/
theorem encode_decodePayload (f : PayloadForm) (c : List Byte) : encode (decodePayload f c) = ⟨.payload f, c⟩ := by
  cases f <;> rfl

/-- The read of a block number decodes to the region of the number (R161). -/
theorem decode_blockRead (lba : BitVec 32) :
    decode .blockRead (bytesLE32 lba) = .ok (decodeRead Config.device lba) := by
  have hread : le32 (bytesLE32 lba) 0 = lba := join32 lba
  rw [decode, decodeFor, ofLength_ok _ (bytesLE32_length lba), hread]

/-- A block write decodes to its block number and block (R92; log 4). -/
theorem decode_blockWrite (lba : BitVec 32) {d : List Byte} (h : d.length = 512) :
    decode .blockWrite (bytesLE32 lba ++ d) = .ok (.wrBegin lba d) := by
  have hlen : (bytesLE32 lba ++ d).length = 4 + Config.device.blk := by simp [h]
  rw [decode, decodeFor, ofLength_ok _ hlen, le32_bytesLE32]
  rfl

/-- Whatever its region, a read is encoded by its block number (R92; log 4). -/
theorem encode_decodeRead (lba : BitVec 32) : encode (decodeRead Config.device lba) = ⟨.blockRead, bytesLE32 lba⟩ := by
  obtain ⟨hzero, he⟩ | ⟨-, -, he⟩ | ⟨-, -, he⟩ | ⟨-, -, he⟩ | ⟨-, he⟩ := decodeRead_cases lba
  · obtain rfl : lba = 0 := BitVec.eq_of_toNat_eq hzero
    rw [he]; rfl
  all_goals rw [he]; rfl

/-- The regions of a read in this hardware's block numbers (R161). -/
theorem decodeRead_eq (lba : BitVec 32) : decodeRead Config.device lba =
    if lba.toNat = 0 then .rdBoot
    else if lba.toNat < 65 then .rdFat lba
    else if lba.toNat < 69 then .rdRoot lba
    else if lba.toNat - 69 < 2 then .rdData lba
    else .rdZero lba := by
  rw [decodeRead, Config.device_startRootdir, Config.device_startClusters, Config.device_numInfo]

theorem decodeRead_fat {lba : BitVec 32} (hge : 1 ≤ lba.toNat) (hlt : lba.toNat < 65) :
    decodeRead Config.device lba = .rdFat lba := by
  rw [decodeRead_eq, if_neg (by omega), if_pos hlt]

theorem decodeRead_root {lba : BitVec 32} (hge : 65 ≤ lba.toNat) (hlt : lba.toNat < 69) :
    decodeRead Config.device lba = .rdRoot lba := by
  rw [decodeRead_eq, if_neg (by omega), if_neg (by omega), if_pos hlt]

theorem decodeRead_data {lba : BitVec 32} (hge : 69 ≤ lba.toNat) (hlt : lba.toNat < 71) :
    decodeRead Config.device lba = .rdData lba := by
  rw [decodeRead_eq, if_neg (by omega), if_neg (by omega), if_neg (by omega), if_pos (by omega)]

theorem decodeRead_zero {lba : BitVec 32} (hge : 71 ≤ lba.toNat) : decodeRead Config.device lba = .rdZero lba := by
  rw [decodeRead_eq, if_neg (by omega), if_neg (by omega), if_neg (by omega), if_neg (by omega)]

/-- A received byte is encoded by itself (R103). -/
theorem encode_decodeRx (b : Byte) : encode (decodeRx Config.device b) = ⟨.rx, [b]⟩ := by
  obtain ⟨rfl, he⟩ | ⟨-, he⟩ := decodeRx_cases b <;> (rw [he]; rfl)

/-! ### HID packets (R105 to R107) -/

/-- The operation that a command id selects, with the packet's tag (R107). -/
def hidCommandOf (cmd : BitVec 32) (tag : BitVec 16) : Instr :=
  if cmd = 1 then .hidBininfo tag else if cmd = 2 then .hidInfo tag else .hidUnknown cmd tag

@[simp] theorem hidCommandOf_bininfo (tag : BitVec 16) : hidCommandOf 1 tag = .hidBininfo tag := rfl

@[simp] theorem hidCommandOf_info (tag : BitVec 16) : hidCommandOf 2 tag = .hidInfo tag := rfl

theorem hidCommandOf_unknown {cmd : BitVec 32} (h1 : cmd ≠ 1) (h2 : cmd ≠ 2) (tag : BitVec 16) :
    hidCommandOf cmd tag = .hidUnknown cmd tag := by
  simp only [hidCommandOf, h1, h2, if_false]

/-- A packet with the flag set is a tunnel packet (R105). -/
theorem decode_hidTunnel {p : List Byte} (hlen : p.length = 64) (hflag : (byteAt p 0).getLsbD 7 = true) :
    decode .hidOut p = .ok (.hidTunnel ((byteAt p 0).setWidth 7) (p.drop 1)) := by
  rw [decode_hidOut hlen]
  simp [decodeHid, framingFlag_device, framingCount_device, hflag]

/-- A packet with the flag clear is the command of its id and tag, and nothing else of it is read (R106, R107). -/
theorem decode_hidCommand {p : List Byte} (hlen : p.length = 64) (hflag : (byteAt p 0).getLsbD 7 = false) :
    decode .hidOut p = .ok (hidCommandOf (le32 p 1) (le16 p 5)) := by
  rw [decode_hidOut hlen]
  have hclear : ¬ framingFlag Config.device (byteAt p 0) = true := by rw [framingFlag_device, hflag]; decide
  exact congrArg Except.ok (if_neg hclear)

/-- An encoded tunnel packet decodes to its count and bytes (R105). -/
theorem decode_framingByte_body (k : BitVec 7) {body : List Byte} (hlen : body.length = 63) :
    decode .hidOut (framingByte Config.device k :: body) = .ok (.hidTunnel k body) := by
  rw [decode_hidOut (by simp [hlen])]
  simp [decodeHid, framingFlag_framingByte, framingCount_framingByte]

/-- An encoded command packet decodes to the command of its id and tag (R106). -/
theorem decode_commandPacket (cmd : BitVec 32) (tag : BitVec 16) :
    decode .hidOut (commandPacket Config.device cmd tag) = .ok (hidCommandOf cmd tag) := by
  have hlen : (commandPacket Config.device cmd tag).length = 64 := by simp [commandPacket]
  have hcmd : le32 (commandPacket Config.device cmd tag) 1 = cmd := join32 cmd
  have htag : le16 (commandPacket Config.device cmd tag) 5 = tag := join16 tag
  have hflag : (byteAt (commandPacket Config.device cmd tag) 0).getLsbD 7 = false := by simp [commandPacket]
  rw [decode_hidCommand hlen hflag, hcmd, htag]

/-! ### Emitted units (R99 to R109) -/

/-- The two bytes of `LE16` of a joined value. -/
theorem bytesLE16_join (lo hi : Byte) : bytesLE16 (hi ++ lo) = [lo, hi] := by
  obtain ⟨hlo, hhi⟩ := split16 lo hi
  rw [bytesLE16, hlo, hhi]

/-- The two bytes of `BE16` of a joined value. -/
theorem bytesBE16_join (hi lo : Byte) : bytesBE16 (hi ++ lo) = [hi, lo] := by
  obtain ⟨hlo, hhi⟩ := split16 lo hi
  rw [bytesBE16, hlo, hhi]

/-- An encoded LOAD_ADDRESS decodes to its address (R99). -/
theorem decode_loadAddressBytes (a : BitVec 16) :
    decode (.emitted .command) (loadAddressBytes Config.device a) = .ok (.loadAddress a) :=
  congrArg (fun v => (.ok (.loadAddress v) : Decoded)) (join16 a)

/-- An encoded PROG_PAGE decodes to its size and terminator (R100). -/
theorem decode_progPageBytes (size : BitVec 16) (term : Byte) :
    decode (.emitted .command) (progPageBytes Config.device size term) = .ok (.progPage size term) :=
  congrArg (fun v => (.ok (.progPage v term) : Decoded)) (join16 size)

/-- An encoded reply decodes to its bytes (R108). -/
theorem decode_reply {body : List Byte} (hlen : body.length ≤ 63) :
    decode (.emitted .reply) (framedPacket Config.device body) = .ok (.reply body) := by
  simp [decode, decodeFor, decodeUnit, packetBody_framedPacket body hlen]

/-- An encoded relay packet, which has at least one byte, decodes to its bytes (R109). -/
theorem decode_relayPacket {body : List Byte} (hne : body ≠ []) (hlen : body.length ≤ 63) :
    decode (.emitted .relayPacket) (framedPacket Config.device body) = .ok (.relayPacket body) := by
  simp [decode, decodeFor, decodeUnit, packetBody_framedPacket body hlen, hne]

/-- The serial commands: each is told by its length and first byte, and is the encoding of what it decodes to
(R99 to R101). -/
theorem serialCommand_of_decode {bs : List Byte} {i : Instr} (h : decodeCommand Config.device bs = .ok i) :
    i.wf = true ∧ encode i = ⟨.emitted .command, bs⟩ := by
  unfold decodeCommand at h
  split at h
  next b =>
    split at h <;> cases h
    next hb => subst hb; exact ⟨rfl, rfl⟩
  next b lo hi =>
    split at h <;> cases h
    next hb =>
      subst hb
      exact ⟨rfl, by rw [encode, encodeFor, loadAddressBytes, bytesLE16_join]⟩
  next b hi lo t =>
    split at h <;> cases h
    next hb =>
      subst hb
      exact ⟨rfl, by rw [encode, encodeFor, progPageBytes, bytesBE16_join]; rfl⟩
  next => cases h

/-- An emitted unit that decodes is well-formed and is the encoding of what it decodes to: no bit of the formats of
emitted units is ignored (R99 to R109). -/
theorem emitted_of_decode {u : UnitPort} {bs : List Byte} {i : Instr} (h : decode (.emitted u) bs = .ok i) :
    i.wf = true ∧ encode i = ⟨.emitted u, bs⟩ := by
  cases u with
  | command => exact serialCommand_of_decode h
  | data =>
    obtain ⟨hlen, rfl⟩ := ofLength_eq_ok_iff.mp h
    exact ⟨(wf_data bs).mpr hlen, rfl⟩
  | resetLine =>
    simp only [decode, decodeFor, decodeUnit] at h
    split at h
    · split at h
      · next hb => cases h; subst hb; exact ⟨rfl, rfl⟩
      · split at h <;> cases h
        next hb => subst hb; exact ⟨rfl, rfl⟩
    · cases h
  | reply =>
    simp only [decode, decodeFor, decodeUnit] at h
    split at h <;> cases h
    next body hbody =>
      obtain ⟨hlen, rfl⟩ := packetBody_ok hbody
      exact ⟨(wf_reply body).mpr hlen, rfl⟩
  | relayPacket =>
    simp only [decode, decodeFor, decodeUnit] at h
    split at h
    · next body hbody =>
      obtain ⟨hlen, rfl⟩ := packetBody_ok hbody
      split at h <;> cases h
      next hne => exact ⟨(wf_relayPacket body).mpr ⟨List.length_pos_iff.mpr hne, hlen⟩, rfl⟩
    · cases h
  | system =>
    simp only [decode, decodeFor, decodeUnit] at h
    split at h
    · split at h
      · next hb => cases h; subst hb; exact ⟨rfl, rfl⟩
      · split at h
        · next hb => cases h; subst hb; exact ⟨rfl, rfl⟩
        · split at h <;> cases h
          next hb => subst hb; exact ⟨rfl, rfl⟩
    · cases h

/-! ### The two round trips -/

/-- Settles O3, format by format: the operands of a well-formed instruction are the ones its row selects, so the
decoder's tests on the encoding come out its way. -/
theorem decodeGivesBackEncoded : Obligations.DecodeGivesBackEncoded := by
  intro i hwf
  cases i with
  | wrBegin lba d => exact decode_blockWrite lba ((wf_wrBegin lba d).mp hwf)
  | wrHdrLive c =>
    obtain ⟨hlen, hmagic, hflag⟩ := (wf_wrHdrLive c).mp hwf
    exact (decode_header hlen).trans (by rw [decodeHeader_live hmagic hflag])
  | wrHdrSkip c =>
    obtain ⟨hlen, hmagic, hflag⟩ := (wf_wrHdrSkip c).mp hwf
    exact (decode_header hlen).trans (by rw [decodeHeader_skip hmagic hflag])
  | wrHdrNomagic c =>
    obtain ⟨hlen, hmagic⟩ := (wf_wrHdrNomagic c).mp hwf
    exact (decode_header hlen).trans (by rw [decodeHeader_nomagic hmagic])
  | wrMeta c => exact decode_metadata ((wf_wrMeta c).mp hwf)
  | wrPayloadSkip c => exact decode_payload .skip ((wf_wrPayloadSkip c).mp hwf)
  | wrPayloadOpen c => exact decode_payload .first ((wf_wrPayloadOpen c).mp hwf)
  | wrPayloadMid c => exact decode_payload .mid ((wf_wrPayloadMid c).mp hwf)
  | wrPayloadLast c => exact decode_payload .last ((wf_wrPayloadLast c).mp hwf)
  | rdBoot => exact decode_blockRead 0
  | rdFat lba =>
    obtain ⟨hge, hlt⟩ := (wf_rdFat lba).mp hwf
    exact (decode_blockRead lba).trans (by rw [decodeRead_fat hge hlt])
  | rdRoot lba =>
    obtain ⟨hge, hlt⟩ := (wf_rdRoot lba).mp hwf
    exact (decode_blockRead lba).trans (by rw [decodeRead_root hge hlt])
  | rdData lba =>
    obtain ⟨hge, hlt⟩ := (wf_rdData lba).mp hwf
    exact (decode_blockRead lba).trans (by rw [decodeRead_data hge hlt])
  | rdZero lba => exact (decode_blockRead lba).trans (by rw [decodeRead_zero ((wf_rdZero lba).mp hwf)])
  | hidTunnel k body => exact decode_framingByte_body k ((wf_hidTunnel k body).mp hwf)
  | hidBininfo tag => exact decode_commandPacket 1 tag
  | hidInfo tag => exact decode_commandPacket 2 tag
  | hidUnknown cmd tag =>
    obtain ⟨hbin, hinfo⟩ := (wf_hidUnknown cmd tag).mp hwf
    exact (decode_commandPacket cmd tag).trans (by rw [hidCommandOf_unknown hbin hinfo])
  | rxOther b =>
    have hb : ¬ b = Config.device.ackByte := (wf_rxOther b).mp hwf
    exact (decode_rx b).trans (by rw [decodeRx, if_neg hb])
  | loadAddress a => exact decode_loadAddressBytes a
  | progPage size term => exact decode_progPageBytes size term
  | data c => exact ofLength_ok _ ((wf_data c).mp hwf)
  | reply body => exact decode_reply ((wf_reply body).mp hwf)
  | relayPacket body =>
    obtain ⟨hpos, hlen⟩ := (wf_relayPacket body).mp hwf
    exact decode_relayPacket (List.length_pos_iff.mp hpos) hlen
  | reboot cause => cases cause <;> rfl
  | wrEnd | hsDoneLa | hsDonePg | flushTick | relay | drain | rxAck | wdtExpire | por | sync | resetStart
  | resetFinish => rfl

/-- Settles O4: outside `hidOut` every bit of a unit goes into what it decodes to. -/
theorem encodeGivesBackDecoded : Obligations.EncodeGivesBackDecoded := by
  intro p bs i hp h
  cases p with
  | hidOut => exact absurd rfl hp
  | emitted u => exact (emitted_of_decode h).2
  | blockWrite =>
    obtain ⟨hlen, rfl⟩ := ofLength_eq_ok_iff.mp h
    exact congrArg (Presented.mk .blockWrite) (bytesLE32_le32_append_drop (by omega))
  | header =>
    obtain ⟨-, rfl⟩ := ofLength_eq_ok_iff.mp h
    exact encode_decodeHeader bs
  | metadata =>
    obtain ⟨-, rfl⟩ := ofLength_eq_ok_iff.mp h
    rfl
  | payload f =>
    obtain ⟨-, rfl⟩ := ofLength_eq_ok_iff.mp h
    exact encode_decodePayload f bs
  | blockRead =>
    obtain ⟨hlen, rfl⟩ := ofLength_eq_ok_iff.mp h
    rw [encode_decodeRead, bytesLE32_le32 hlen]
  | rx =>
    obtain ⟨hlen, rfl⟩ := ofLength_eq_ok_iff.mp h
    obtain ⟨b, rfl⟩ := List.length_eq_one_iff.mp hlen
    exact encode_decodeRx b
  | blockEnd | ackedLa | ackedPg | flushTick | relay | drain | wdt | por =>
    obtain ⟨hlen, rfl⟩ := ofLength_eq_ok_iff.mp h
    obtain rfl := List.length_eq_zero_iff.mp hlen
    rfl

/-- Settles O5: the interfaces' units by `decode_wf_of_not_emitted`, the emitted units by `emitted_of_decode`. -/
theorem decodedIsWellFormed : Obligations.DecodedIsWellFormed := by
  intro p bs i h
  by_cases hp : ∃ u, p = .emitted u
  · obtain ⟨u, rfl⟩ := hp
    exact (emitted_of_decode h).1
  · exact (Machine.decode_wf_of_not_emitted (not_exists.mp hp) h).1

/-- The encoding of an instruction decodes to it exactly where the instruction is well-formed. -/
theorem decode_encode_iff (i : Instr) : decode (encode i).port (encode i).bytes = .ok i ↔ i.wf = true :=
  ⟨decodedIsWellFormed _ _ i, decodeGivesBackEncoded i⟩

/-- Bytes that encode a well-formed instruction decode to it. -/
theorem decode_of_encode {i : Instr} {p : Port} {bs : List Byte} (hwf : i.wf = true) (he : encode i = ⟨p, bs⟩) :
    decode p bs = .ok i := by
  simpa only [he] using decodeGivesBackEncoded i hwf

/-! ### What an input selects -/

/-- Settles O7: a header chunk decodes to a class exactly where that class's instruction is well-formed, and the header
chunk holds the block's first 9 bytes. -/
theorem headerClassFromMagicAndSkipFlag : Obligations.HeaderClassFromMagicAndSkipFlag := by
  intro d hd c
  have hlen : c.length = 16 := by simp [c, hd]
  have hmagic : c.take 8 = d.take 8 := by simp [c, List.take_take]
  have hflag : byteAt c 8 = byteAt d 8 := byteAt_take (by decide)
  refine ⟨?_, ?_, ?_, fun s => rfl⟩
  · exact (decode_encode_iff (.wrHdrLive c)).trans <| (wf_wrHdrLive c).trans <| by
      rw [hmagic, hflag]; exact and_iff_right hlen
  · exact (decode_encode_iff (.wrHdrSkip c)).trans <| (wf_wrHdrSkip c).trans <| by
      rw [hmagic, hflag]; exact and_iff_right hlen
  · exact (decode_encode_iff (.wrHdrNomagic c)).trans <| (wf_wrHdrNomagic c).trans <| by
      rw [hmagic]; exact and_iff_right hlen

/-- Settles O9: the id and the tag lie in bytes 1 to 6, and a command packet is read from them alone. -/
theorem commandReadsHeaderBytesOnly : Obligations.CommandReadsHeaderBytesOnly := by
  intro p q hp hq hpflag hqflag hsame
  have hbyte : ∀ i < 6, byteAt p (1 + i) = byteAt q (1 + i) := fun i hi => by
    rw [← byteAt_take_drop hi, hsame, byteAt_take_drop hi]
  have hcmd : le32 p 1 = le32 q 1 := by
    simp only [le32, hbyte 0 (by decide), hbyte 1 (by decide), hbyte 2 (by decide), hbyte 3 (by decide)]
  have htag : le16 p 5 = le16 q 5 := by
    simp only [le16, hbyte 4 (by decide), hbyte 5 (by decide)]
  rw [decode_hidCommand hp hpflag, decode_hidCommand hq hqflag, hcmd, htag]

/-- Settles O6: each input has its format's length, and a format of one length refuses nothing else. -/
theorem everyInputSelectsAnOperation : Obligations.EveryInputSelectsAnOperation := by
  refine ⟨fun lba d hd => ?_, fun c hc => ?_, fun lba => ?_, fun p hp => ?_, fun b => ?_⟩
  · exact ⟨_, decode_blockWrite lba hd⟩
  · exact ⟨⟨_, decode_header hc⟩, ⟨_, decode_metadata hc⟩, fun f => ⟨_, decode_payload f hc⟩⟩
  · exact ⟨_, decode_blockRead lba⟩
  · exact ⟨_, decode_hidOut hp⟩
  · exact ⟨_, decode_rx b⟩

/-- Settles O8: a tunnel packet by its flag, a command by its id. -/
theorem packetSelectsItsOperation : Obligations.PacketSelectsItsOperation := by
  intro p hlen
  refine ⟨decode_hidTunnel hlen, fun hflag => ?_⟩
  intro cmd tag
  have hdecode : decode .hidOut p = .ok (hidCommandOf cmd tag) := decode_hidCommand hlen hflag
  refine ⟨fun hbin => ?_, fun hinfo => ?_, fun hbin hinfo => ?_⟩
  · rw [hdecode, hbin, hidCommandOf_bininfo]
  · rw [hdecode, hinfo, hidCommandOf_info]
  · rw [hdecode, hidCommandOf_unknown hbin hinfo]

/-- Settles O10: each word is the encoding of a well-formed instruction, so O3 gives its decoding. -/
theorem writtenOutWordsDecode : Obligations.WrittenOutWordsDecode := by
  refine ⟨?_, ?_, ?_, ?_, ?_, ?_, ?_, ?_, ?_⟩ <;> exact decode_of_encode (by decide) rfl

end Sys2Proof

namespace Sys2Proof.Machine

/-! ### The command replies (R110 to R112) -/

@[simp] theorem replyHeader_length (tag : BitVec 16) (status : Byte) : (replyHeader tag status).length = 4 := rfl

@[simp] theorem bininfoData_length (cfg : Config) : (bininfoData cfg).length = 16 := rfl

/-- The packet of a reply, byte by byte: count and flag, tag, status, a zero byte, the data, zeros (R108). -/
theorem framedPacket_reply (tag : BitVec 16) (status : Byte) (data : List Byte) :
    framedPacket Config.device (replyHeader tag status ++ data) =
      framingByte Config.device (BitVec.ofNat 7 (4 + data.length))
        :: tag.extractLsb' 0 8 :: tag.extractLsb' 8 8 :: status :: 0x00#8
        :: (data ++ zeros (63 - (4 + data.length))) := by
  rw [framedPacket, List.length_append, replyHeader_length]
  rfl

/-- The packet of HID_BININFO (R110): mode, page size, flash pages and message size after the header. -/
theorem framedPacket_bininfo (tag : BitVec 16) :
    framedPacket Config.device (replyHeader tag Config.device.stOk ++ bininfoData Config.device) =
      [0x94#8, tag.extractLsb' 0 8, tag.extractLsb' 8 8, 0x00#8, 0x00#8, 0x01#8, 0x00#8, 0x00#8, 0x00#8, 0x80#8,
        0x00#8, 0x00#8, 0x00#8, 0x00#8, 0x01#8, 0x00#8, 0x00#8, 0x3F#8, 0x00#8, 0x00#8, 0x00#8] ++ zeros 43 := by
  have hcount : framingByte Config.device (BitVec.ofNat 7 20) = 0x94#8 := by decide
  have hdata : bininfoData Config.device =
      [0x01#8, 0x00#8, 0x00#8, 0x00#8, 0x80#8, 0x00#8, 0x00#8, 0x00#8, 0x00#8, 0x01#8, 0x00#8, 0x00#8, 0x3F#8,
        0x00#8, 0x00#8, 0x00#8] := by decide
  rw [framedPacket_reply, bininfoData_length, hcount, hdata]
  rfl

/-- The packet of HID_INFO (R111): the identity string after the header. -/
theorem framedPacket_info (tag : BitVec 16) :
    framedPacket Config.device (replyHeader tag Config.device.stOk ++ Config.device.ident) =
      [0xBC#8, tag.extractLsb' 0 8, tag.extractLsb' 8 8, 0x00#8, 0x00#8] ++ Config.device.ident ++ zeros 3 := by
  have hcount : framingByte Config.device (BitVec.ofNat 7 60) = 0xBC#8 := by decide
  rw [framedPacket_reply, Config.device_ident_length, hcount]
  rfl

/-- The packet of HID_UNKNOWN (R112): the header with the invalid status and no data. -/
theorem framedPacket_unknown (tag : BitVec 16) :
    framedPacket Config.device (replyHeader tag Config.device.stInvalid) =
      [0x84#8, tag.extractLsb' 0 8, tag.extractLsb' 8 8, 0x01#8, 0x00#8] ++ zeros 59 := by
  have hcount : framingByte Config.device (BitVec.ofNat 7 4) = 0x84#8 := by decide
  rw [← List.append_nil (replyHeader _ _), framedPacket_reply, List.length_nil, hcount]
  rfl

/-- An enabled operation whose effect is a reply of at most 63 bytes sends the reply's framed packet, and nothing else
changes (R233, R234). -/
theorem exec_reply {i : Instr} {s : State} {body p : List Byte} (hen : enabled i s = true)
    (heff : effect i s = s.sendReply Config.device body) (hlen : body.length ≤ 63)
    (hpacket : framedPacket Config.device body = p) :
    exec i s = .next { s with txBuf := p, hidOut := s.hidOut ++ [p] } := by
  rw [exec_eq, if_pos hen, heff, sendReply_eq body hlen, hpacket]
  rfl

/-- Settles O33: each command's effect in IDLE is its reply, whose framed packet is the one written out. -/
theorem commandReplyBytes : Obligations.CommandReplyBytes := by
  intro s cmd tag hidle lo hi b q u
  have hen : s.isIdle = true := (isIdle_iff s).mpr hidle
  refine ⟨?_, ?_, fun _ _ => ?_⟩
  · exact exec_reply (i := .hidBininfo tag) hen rfl (by simp) (framedPacket_bininfo tag)
  · exact exec_reply (i := .hidInfo tag) hen rfl (by simp) (framedPacket_info tag)
  · exact exec_reply (i := .hidUnknown cmd tag) hen rfl (by simp) (framedPacket_unknown tag)

end Sys2Proof.Machine
end

section
/-! The proofs about `40_uf2_decoder.md`: what each operation of the write path does (R130 to R143), the chunk the
sequencer takes (R131), and the writes of an inert block (R144) and of a live block of one page (R145), whole. Each
operation's rule is proved once, from `exec_eq`; a whole transaction is a chain of steps, each of which cites its
operation's rule. -/

namespace Sys2Proof.Machine

/-! ### Recording an index (R136) -/

/-- A recorded index is fresh no longer, in every capacity that the bitmap holds (R136). -/
theorem isFresh_recordIndex {cfg : Config} (hcap : cfg.bitmapCap ≤ 256) (bitmap : BitVec 256) (i : BitVec 32) :
    isFresh cfg (recordIndex cfg bitmap i) i = false := by
  unfold recordIndex
  split
  · next hfresh =>
    have hlt : i.toNat < cfg.bitmapCap := by
      rw [isFresh, Bool.and_eq_true, decide_eq_true_eq] at hfresh
      exact hfresh.1
    simp [isFresh, setBit_getLsbD bitmap i.toNat i.toNat (by omega)]
  · next hstale => simpa using hstale

/-- Settles O50: after the first recording the index is not fresh, and only a fresh index is recorded or counted. -/
theorem recordingAnIndexTwiceCountsOnce : Obligations.RecordingAnIndexTwiceCountsOnce := by
  intro cfg bitmap count i hcap
  have hstale : ¬ isFresh cfg (recordIndex cfg bitmap i) i = true := by simp [isFresh_recordIndex hcap]
  exact ⟨if_neg hstale, if_neg hstale⟩

/-! ### The values that the operations of a block write -/

/-- `expCount` after a live block declares `n`, with this hardware's sentinels (R135). -/
theorem nextExpCount_device (stored n : BitVec 32) : nextExpCount Config.device stored n =
    if n ≠ stored then (if stored ≠ 0x00000000 then 0xFFFFFFFF else n) else stored := by
  rw [nextExpCount, ite_not (n = stored)]
  rfl

/-- `bitmap` after a live block with index `i`, in this hardware's capacity (R136). -/
theorem recordIndex_device (bitmap : BitVec 256) (i : BitVec 32) : recordIndex Config.device bitmap i =
    if i.toNat < 256 ∧ bitmap.getLsbD i.toNat = false then bitmap ||| (1#256 <<< i.toNat) else bitmap :=
  if_congr (isFresh_iff bitmap i) rfl rfl

/-- `writtenCount` after a live block with index `i`, in this hardware's capacity (R136). -/
theorem countIndex_device (bitmap : BitVec 256) (count : BitVec 9) (i : BitVec 32) :
    countIndex Config.device bitmap count i =
      if i.toNat < 256 ∧ bitmap.getLsbD i.toNat = false then count + 1 else count :=
  if_congr (isFresh_iff bitmap i) rfl rfl

/-- `pagesPending` of a live block: the declared size in whole pages of 128 bytes (R134). -/
theorem pages_device (c : List Byte) : pages Config.device c = (le32 c 0 >>> 7).setWidth 25 := by
  rw [pages, declSize_device, Config.device_pageShift]

/-- A handshake arms a watchdog that is off and leaves any other (R200). -/
theorem armHandshake_eq (w : Wdt) : armHandshake w = if w = .off then .hs else w := by cases w <;> rfl

/-- A wait leaves the watchdog as it found it, unless another wait was still bounded (R193, R195, R200). -/
theorem endHandshake_armHandshake {w : Wdt} (h : w ≠ .hs) : endHandshake (armHandshake w) = w := by
  cases w with
  | hs => exact absurd rfl h
  | off | done => rfl

/-! ### The operations of a block (R130 to R143) -/

/-- An enabled operation has its effect. -/
theorem exec_of_enabled {i : Instr} {s : State} (h : enabled i s = true) : exec i s = .next (effect i s) := by
  rw [exec_eq, if_pos h]

/-- Settles O15: in IDLE by the operation's effect, else the block waits as every host transaction does (O14). -/
theorem wrBeginLatchesBlock : Obligations.WrBeginLatchesBlock := by
  intro s lba d
  refine ⟨fun hidle => exec_of_enabled (i := .wrBegin lba d) ((isIdle_iff s).mpr hidle), fun hbusy hevents => ?_⟩
  obtain ⟨-, -, hwait⟩ := hostTransactionsWaitDuringBlock s hbusy
  exact hwait (by simp [hevents, Event.waits])

/-- Settles O16: the class of the chunk by the decoder's three cases, the effect of each class in the header state. -/
theorem headerChunkSetsInertAndAddress : Obligations.HeaderChunkSetsInertAndAddress := by
  intro s c hupc hci hlen magic
  have hready : s.atHeader = true := (atHeader_iff s).mpr ⟨hupc, by simp [hci]⟩
  refine ⟨fun hm hflag => ?_, ?_, fun hm hflag => ?_, ?_, fun hm => ?_, ?_⟩
  · rw [decode_header hlen, decodeHeader_live hm hflag]
  · rw [exec_of_enabled (i := .wrHdrLive c) hready, effect, wordAddrNew, byteAddr_device]
    rfl
  · rw [decode_header hlen, decodeHeader_skip hm hflag]
  · exact exec_of_enabled (i := .wrHdrSkip c) hready
  · rw [decode_header hlen, decodeHeader_nomagic hm]
  · exact exec_of_enabled (i := .wrHdrNomagic c) hready

/-- The metadata chunk of a live block: page count, expected count, recorded index (R133 to R136). -/
theorem exec_wrMeta_live {s : State} {c : List Byte} (hupc : s.upc = .blk) (hci : s.ci = 1) (hlive : s.inert = false) :
    exec (.wrMeta c) s = .next { s with
      chunkBuf := c
      pagesPending := (le32 c 0 >>> 7).setWidth 25
      expCount := nextExpCount Config.device s.expCount (le32 c 8)
      bitmap := recordIndex Config.device s.bitmap (le32 c 4)
      writtenCount := countIndex Config.device s.bitmap s.writtenCount (le32 c 4)
      ci := 2 } := by
  have hready : s.atMetadata = true := (atMetadata_iff s).mpr ⟨hupc, by simp [hci]⟩
  rw [exec_of_enabled (i := .wrMeta c) hready, effect, if_neg (by simp [hlive]), State.liveMetadata, pages_device,
    declCount_device, blockIndex_device]
  rfl

/-- The metadata chunk of an inert block (R133). -/
theorem exec_wrMeta_inert {s : State} {c : List Byte} (hupc : s.upc = .blk) (hci : s.ci = 1) (hinert : s.inert = true) :
    exec (.wrMeta c) s = .next { s with chunkBuf := c, ci := 2 } := by
  have hready : s.atMetadata = true := (atMetadata_iff s).mpr ⟨hupc, by simp [hci]⟩
  rw [exec_of_enabled (i := .wrMeta c) hready, effect, if_pos hinert]
  rfl

/-- Settles O17: the two effects, with the live block's registers written out by their rules. -/
theorem metadataChunkUpdatesTransferState : Obligations.MetadataChunkUpdatesTransferState := by
  intro s c hupc hci n i
  refine ⟨fun hlive => ?_, exec_wrMeta_inert hupc hci⟩
  rw [exec_wrMeta_live hupc hci hlive, nextExpCount_device, recordIndex_device, countIndex_device]

/-- No payload chunk of an inert block acts, nor one with no page pending (R137). -/
theorem programs_eq_false {s : State} (h : s.inert = true ∨ s.pagesPending = 0) : s.programs = false := by
  rw [← Bool.not_eq_true, programs_iff]
  rintro ⟨hlive, hpending⟩
  obtain hinert | hnone := h
  · simp [hlive] at hinert
  · exact hpending hnone

/-- Settles O18. -/
theorem skippedPayloadOnlyAdvances : Obligations.SkippedPayloadOnlyAdvances := by
  intro s c hupc hge hle hskip
  have hdue := (due_skip_iff s).mpr ⟨⟨hupc, hge, by omega⟩, programs_eq_false hskip⟩
  exact exec_of_enabled (i := .wrPayloadSkip c) hdue

/-- Settles O19: the effect is `openPage_eq`, with the watchdog by `armHandshake_eq`. -/
theorem openingChunkSendsLoadAddress : Obligations.OpeningChunkSendsLoadAddress := by
  intro s c hupc hge hle hlive hpending hpos
  have hdue := (due_first_iff s).mpr ⟨⟨hupc, hge, by omega⟩, (programs_iff s).mpr ⟨hlive, hpending⟩, hpos⟩
  rw [exec_of_enabled (i := .wrPayloadOpen c) hdue, effect, openPage_eq, armHandshake_eq]
  rfl

/-- Settles O20. -/
theorem middleChunkIsSentVerbatim : Obligations.MiddleChunkIsSentVerbatim := by
  intro s c hupc hge hle hlive hpending hpos hlt
  have hdue := (due_mid_iff s).mpr
    ⟨⟨hupc, hge, by omega⟩, (programs_iff s).mpr ⟨hlive, hpending⟩, by omega, by omega⟩
  exact exec_of_enabled (i := .wrPayloadMid c) hdue

/-- Settles O21: the effect is `handshake_eq` after the chunk, with the watchdog by `armHandshake_eq`. -/
theorem lastChunkStartsCommitHandshake : Obligations.LastChunkStartsCommitHandshake := by
  intro s c hupc hge hle hlive hpending hpos
  have hdue := (due_last_iff s).mpr ⟨⟨hupc, hge, by omega⟩, (programs_iff s).mpr ⟨hlive, hpending⟩, hpos⟩
  rw [exec_of_enabled (i := .wrPayloadLast c) hdue, effect, handshake_eq, armHandshake_eq]
  rfl

/-- Settles O22: the effect's two branches are the completion test's (`completes_iff`). -/
theorem endOfBlockCompletesWhenReached : Obligations.EndOfBlockCompletesWhenReached := by
  intro s hupc hci
  have hend : s.atEnd Config.device = true := (atEnd_iff s).mpr ⟨hupc, by simp [hci]⟩
  rw [exec_of_enabled (i := .wrEnd) hend]
  exact congrArg _ (if_congr (completes_iff s) rfl rfl)

/-! ### The sequencer's turn (R131, R193, R195) -/

section
variable {s : State} {d : List Byte}

/-- In BLK the turn is the chunk operation at `ci`. -/
theorem sequencerTurn_blk (hupc : s.upc = .blk) (hd : s.blkData = some d) :
    sequencerTurn Config.device s = chunkTurn Config.device d s := by
  simp [sequencerTurn, hupc, hd]

/-- Chunk 0 is the header. -/
theorem sequencerTurn_header (hupc : s.upc = .blk) (hd : s.blkData = some d) (hci : s.ci.toNat = 0) :
    sequencerTurn Config.device s = .run ⟨.header, chunkOf Config.device d 0⟩ s := by
  simp [sequencerTurn_blk hupc hd, chunkTurn, hci]

/-- Chunk 1 is the metadata. -/
theorem sequencerTurn_metadata (hupc : s.upc = .blk) (hd : s.blkData = some d) (hci : s.ci.toNat = 1) :
    sequencerTurn Config.device s = .run ⟨.metadata, chunkOf Config.device d 1⟩ s := by
  simp [sequencerTurn_blk hupc hd, chunkTurn, hci]

/-- Chunks 2 to 31 are payload, in the form that the state selects. -/
theorem sequencerTurn_payload (hupc : s.upc = .blk) (hd : s.blkData = some d) (hge : 2 ≤ s.ci.toNat)
    (hlt : s.ci.toNat < 32) : sequencerTurn Config.device s =
      .run ⟨.payload (s.payloadForm Config.device), chunkOf Config.device d s.ci.toNat⟩ s := by
  have h0 : s.ci.toNat ≠ 0 := by omega
  have h1 : s.ci.toNat ≠ 1 := by omega
  rw [sequencerTurn_blk hupc hd, chunkTurn, if_neg h0, if_neg h1, Config.device_nchunk, if_pos hlt]

/-- After chunk 31 comes the end of the block. -/
theorem sequencerTurn_end (hupc : s.upc = .blk) (hd : s.blkData = some d) (hci : s.ci.toNat = 32) :
    sequencerTurn Config.device s = .run ⟨.blockEnd, []⟩ s := by
  simp [sequencerTurn_blk hupc hd, chunkTurn, hci]

/-- The answered load-address wait goes on (R193). -/
theorem sequencerTurn_acked_la (h : s.acked .waitLa = true) :
    sequencerTurn Config.device s = .run ⟨.ackedLa, []⟩ s := by
  simp [sequencerTurn, ((acked_iff s _).mp h).1, h]

/-- The answered page-commit wait goes on (R195). -/
theorem sequencerTurn_acked_pg (h : s.acked .waitPg = true) :
    sequencerTurn Config.device s = .run ⟨.ackedPg, []⟩ s := by
  simp [sequencerTurn, ((acked_iff s _).mp h).1, h]

/-- Chunk `i` as the rules write it: 16 bytes from `16 * i` on. -/
theorem chunkOf_device (d : List Byte) (i : Nat) : chunkOf Config.device d i = (d.drop (16 * i)).take 16 := by
  rw [chunkOf, Config.device_chunk, Nat.mul_comm]

/-- An entry that gives the turn to the sequencer is next at every position, whatever comes after it. -/
theorem fetch_seq {rest : List Event} (h : s.events = .seq :: rest) :
    fetch Config.device s = sequencerTurn Config.device { s with events := rest } := by
  rw [fetch, h, nextEvent_of_not_waits _ _ rfl]
  rfl

/-- With no entry left the sequencer goes on. -/
theorem fetch_nil (h : s.events = []) : fetch Config.device s = sequencerTurn Config.device s := by
  rw [fetch, h, nextEvent_nil]

end

/-- Settles O13: the four turns of a block, and the two ways the fetch comes to them. -/
theorem sequencerTakesChunkByIndex : Obligations.SequencerTakesChunkByIndex := by
  refine ⟨fun s d hupc hd => ⟨fun hci => ?_, fun hci => ?_, fun hge hle => ?_, sequencerTurn_end hupc hd⟩,
    fun s rest => fetch_seq, fun s => fetch_nil⟩
  · rw [sequencerTurn_header hupc hd hci, chunkOf_device]
  · rw [sequencerTurn_metadata hupc hd hci, chunkOf_device]
  · have hpayload : s.atPayload Config.device = true := (atPayload_iff s).mpr ⟨hupc, hge, by omega⟩
    refine ⟨s.payloadForm Config.device, ?_, by simp [State.payloadDue, hpayload]⟩
    rw [sequencerTurn_payload hupc hd hge (by omega), chunkOf_device]

/-! ### Chunks of a block (R131) -/

/-- Every chunk of a 512-byte block has 16 bytes. -/
theorem chunkOf_length {d : List Byte} (hlen : d.length = 512) {i : Nat} (hi : i < 32) :
    (chunkOf Config.device d i).length = 16 := by
  rw [chunkOf_device]
  simp
  omega

/-- A byte of a chunk is a byte of the block. -/
theorem byteAt_chunkOf (d : List Byte) (i : Nat) {k : Nat} (hk : k < 16) :
    byteAt (chunkOf Config.device d i) k = byteAt d (16 * i + k) := by
  rw [chunkOf_device, byteAt_take_drop hk]

/-- A 16-bit field of the header chunk is the block's (R96). -/
theorem le16_chunkOf (d : List Byte) (i : Nat) {k : Nat} (hk : k + 1 < 16) :
    le16 (chunkOf Config.device d i) k = le16 d (16 * i + k) := by
  simp only [le16, byteAt_chunkOf d i hk, byteAt_chunkOf d i (Nat.lt_of_succ_lt hk), Nat.add_assoc]

/-- A 32-bit field of the metadata chunk is the block's (R97). -/
theorem le32_chunkOf (d : List Byte) (i : Nat) {k : Nat} (hk : k + 3 < 16) :
    le32 (chunkOf Config.device d i) k = le32 d (16 * i + k) := by
  have hbyte : ∀ j < 4, byteAt (chunkOf Config.device d i) (k + j) = byteAt d (16 * i + k + j) := fun j hj => by
    rw [byteAt_chunkOf d i (by omega), Nat.add_assoc]
  simp only [le32, hbyte 1 (by decide), hbyte 2 (by decide), hbyte 3 (by decide),
    byteAt_chunkOf d i (by omega : k < 16)]

/-- The bytes of `n` chunks from chunk `i` on. -/
def chunksFrom (d : List Byte) (i n : Nat) : List Byte := (d.drop (16 * i)).take (16 * n)

/-- Chunks in a row are the first of them and the rest. -/
theorem chunksFrom_succ (d : List Byte) (i n : Nat) :
    chunksFrom d i (n + 1) = chunkOf Config.device d i ++ chunksFrom d (i + 1) n := by
  rw [chunksFrom, chunksFrom, chunkOf_device, Nat.mul_succ, Nat.add_comm, List.take_add, List.drop_drop, Nat.mul_succ]

/-- One chunk in a row is the chunk. -/
theorem chunksFrom_one (d : List Byte) (i : Nat) : chunksFrom d i 1 = chunkOf Config.device d i := by
  rw [chunksFrom, chunkOf_device]

/-- Chunks in a row are the last of them after the others. -/
theorem chunksFrom_succ_last (d : List Byte) (i n : Nat) :
    chunksFrom d i (n + 1) = chunksFrom d i n ++ chunkOf Config.device d (i + n) := by
  rw [chunksFrom, chunksFrom, chunkOf_device, Nat.mul_succ, List.take_add, List.drop_drop, Nat.mul_add]

/-! ### One step of a block -/

/-- A block of the class UF2_LIVE (R93): the magic is there and the skip flag is clear. -/
def Uf2Live (d : List Byte) : Prop := d.take 8 = Config.device.magic ∧ (byteAt d 8).getLsbD 0 = false

/-- The header chunk of a live block, and of no other, decodes to the live header. -/
theorem decode_header_live_iff {d : List Byte} (hlen : d.length = 512) :
    decode .header (chunkOf Config.device d 0) = .ok (.wrHdrLive (chunkOf Config.device d 0)) ↔ Uf2Live d :=
  (headerClassFromMagicAndSkipFlag d hlen).1

/-- The header chunk of a block that is not live decodes to one of the two inert headers. -/
theorem decode_header_inert {d : List Byte} (hlen : d.length = 512) (hinert : ¬ Uf2Live d) :
    decode .header (chunkOf Config.device d 0) = .ok (.wrHdrSkip (chunkOf Config.device d 0))
      ∨ decode .header (chunkOf Config.device d 0) = .ok (.wrHdrNomagic (chunkOf Config.device d 0)) := by
  obtain ⟨-, hskip, hnomagic, -⟩ := headerClassFromMagicAndSkipFlag d hlen
  by_cases hmagic : d.take 8 = Config.device.magic
  · have hflag : (byteAt d 8).getLsbD 0 = true := by simpa [Uf2Live, hmagic] using hinert
    exact .inl (hskip.mpr ⟨hmagic, hflag⟩)
  · exact .inr (hnomagic.mpr hmagic)

/-- The next step of `s` is the sequencer's turn in the state `t`, with the 512-byte block `d` in flight. -/
structure BlockTurn (s t : State) (d : List Byte) : Prop where
  fetched : fetch Config.device s = sequencerTurn Config.device t
  upc_blk : t.upc = .blk
  latched : t.blkData = some d
  length_eq : d.length = 512

/-- The next entry gives the turn to the sequencer. -/
theorem BlockTurn.ofSeq {s : State} {d : List Byte} {rest : List Event} (hev : s.events = .seq :: rest)
    (hupc : s.upc = .blk) (hd : s.blkData = some d) (hlen : d.length = 512) :
    BlockTurn s { s with events := rest } d := ⟨fetch_seq hev, hupc, hd, hlen⟩

/-- No entry is left, and the sequencer goes on. -/
theorem BlockTurn.ofNil {s : State} {d : List Byte} (hev : s.events = []) (hupc : s.upc = .blk)
    (hd : s.blkData = some d) (hlen : d.length = 512) : BlockTurn s s d := ⟨fetch_nil hev, hupc, hd, hlen⟩

/-- A step runs the instruction that the fetched unit decodes to. -/
theorem step_eq_exec {s t : State} {u : Presented} {i : Instr} (hfetch : fetch Config.device s = .run u t)
    (hdecode : decode u.port u.bytes = .ok i) : step s = exec i t := by
  obtain ⟨hstep, -, -⟩ := stepRunsDecodedUnit
  exact hstep s t u i hfetch hdecode

section
variable {s t : State} {d : List Byte}

/-- The header of a live block clears `inert` and gives the word address (R132). -/
theorem BlockTurn.step_header_live (h : BlockTurn s t d) (hci : t.ci = 0) (hlive : Uf2Live d) :
    step s = .next { t with
      chunkBuf := chunkOf Config.device d 0, inert := false, wordAddr := le16 d 12 >>> 1, ci := 1 } := by
  have hfetch := h.fetched.trans (sequencerTurn_header h.upc_blk h.latched (by simp [hci]))
  obtain ⟨-, hexec, -⟩ :=
    headerChunkSetsInertAndAddress t _ h.upc_blk hci (chunkOf_length h.length_eq (i := 0) (by decide))
  rw [step_eq_exec hfetch ((decode_header_live_iff h.length_eq).mpr hlive), hexec, ← le16, le16_chunkOf d 0 (by decide)]

/-- The header of any other block sets `inert`, whichever of the two inert classes it has (R132). -/
theorem BlockTurn.step_header_inert (h : BlockTurn s t d) (hci : t.ci = 0) (hinert : ¬ Uf2Live d) :
    step s = .next { t with chunkBuf := chunkOf Config.device d 0, inert := true, ci := 1 } := by
  have hfetch := h.fetched.trans (sequencerTurn_header h.upc_blk h.latched (by simp [hci]))
  obtain ⟨-, -, -, hskip, -, hnomagic⟩ :=
    headerChunkSetsInertAndAddress t _ h.upc_blk hci (chunkOf_length h.length_eq (i := 0) (by decide))
  obtain hdecode | hdecode := decode_header_inert h.length_eq hinert
  · exact (step_eq_exec hfetch hdecode).trans hskip
  · exact (step_eq_exec hfetch hdecode).trans hnomagic

/-- With the metadata chunk due the step is WR_META of chunk 1 (R133). -/
theorem BlockTurn.step_metadata (h : BlockTurn s t d) (hci : t.ci = 1) :
    step s = exec (.wrMeta (chunkOf Config.device d 1)) t :=
  step_eq_exec (h.fetched.trans (sequencerTurn_metadata h.upc_blk h.latched (by simp [hci])))
    (decode_metadata (chunkOf_length h.length_eq (by decide)))

/-- The metadata of a live block gives the page count, the expected count and the recorded index (R134 to R136). -/
theorem BlockTurn.step_metadata_live (h : BlockTurn s t d) (hci : t.ci = 1) (hlive : t.inert = false) :
    step s = .next { t with
      chunkBuf := chunkOf Config.device d 1
      pagesPending := (le32 d 16 >>> 7).setWidth 25
      expCount := nextExpCount Config.device t.expCount (le32 d 24)
      bitmap := recordIndex Config.device t.bitmap (le32 d 20)
      writtenCount := countIndex Config.device t.bitmap t.writtenCount (le32 d 20)
      ci := 2 } := by
  rw [h.step_metadata hci, exec_wrMeta_live h.upc_blk hci hlive, le32_chunkOf d 1 (by decide),
    le32_chunkOf d 1 (by decide), le32_chunkOf d 1 (by decide)]

/-- The metadata of an inert block is fetched only (R133). -/
theorem BlockTurn.step_metadata_inert (h : BlockTurn s t d) (hci : t.ci = 1) (hinert : t.inert = true) :
    step s = .next { t with chunkBuf := chunkOf Config.device d 1, ci := 2 } :=
  (h.step_metadata hci).trans (exec_wrMeta_inert h.upc_blk hci hinert)

/-- A payload chunk that is due enables its form's operation (R92). -/
theorem enabled_decodePayload (f : PayloadForm) (c : List Byte) (s : State) :
    enabled (decodePayload f c) s = s.payloadDue Config.device f := by cases f <;> rfl

/-- With a payload chunk due the step has its form's effect, with chunk `ci` (R131). -/
theorem BlockTurn.step_payload (h : BlockTurn s t d) {f : PayloadForm} (hdue : t.payloadDue Config.device f = true) :
    step s = .next (effect (decodePayload f (chunkOf Config.device d t.ci.toNat)) t) := by
  have hplace := hdue
  rw [State.payloadDue, Bool.and_eq_true, atPayload_iff, decide_eq_true_eq] at hplace
  obtain ⟨⟨-, hge, hlt⟩, hform⟩ := hplace
  have hfetch := h.fetched.trans (sequencerTurn_payload h.upc_blk h.latched hge hlt)
  rw [hform] at hfetch
  rw [step_eq_exec hfetch (decode_payload f (chunkOf_length h.length_eq hlt)),
    exec_of_enabled ((enabled_decodePayload f _ t).trans hdue)]

/-- After the last chunk the step is WR_END (R139). -/
theorem BlockTurn.step_end (h : BlockTurn s t d) (hci : t.ci = 32) : step s = exec .wrEnd t :=
  step_eq_exec (h.fetched.trans (sequencerTurn_end h.upc_blk h.latched (by simp [hci]))) rfl

/-- A chunk that is fetched and discarded (R137). -/
theorem BlockTurn.step_skip (h : BlockTurn s t d) (hprog : t.programs = false) (hge : 2 ≤ t.ci.toNat)
    (hlt : t.ci.toNat < 32) :
    step s = .next { t with chunkBuf := chunkOf Config.device d t.ci.toNat, ci := t.ci + 1 } :=
  h.step_payload ((due_skip_iff t).mpr ⟨⟨h.upc_blk, hge, hlt⟩, hprog⟩)

/-- A chunk inside a page is sent (R142). -/
theorem BlockTurn.step_middle (h : BlockTurn s t d) (hprog : t.programs = true) (hge : 2 ≤ t.ci.toNat)
    (hlt : t.ci.toNat < 32) (hfirst : (t.ci.toNat - 2) % 8 ≠ 0) (hlast : (t.ci.toNat - 2) % 8 ≠ 7) :
    step s = .next { t with
      chunkBuf := chunkOf Config.device d t.ci.toNat
      serOut := t.serOut ++ (chunkOf Config.device d t.ci.toNat).map SerEvent.tx
      ci := t.ci + 1 } :=
  h.step_payload ((due_mid_iff t).mpr ⟨⟨h.upc_blk, hge, hlt⟩, hprog, hfirst, hlast⟩)

/-- The chunk that opens a page waits in `chunkBuf` while the address is sent (R141). -/
theorem BlockTurn.step_open (h : BlockTurn s t d) (hprog : t.programs = true) (hge : 2 ≤ t.ci.toNat)
    (hlt : t.ci.toNat < 32) (hpos : (t.ci.toNat - 2) % 8 = 0) :
    step s = .next { t with
      chunkBuf := chunkOf Config.device d t.ci.toNat
      started := true
      resetLine := if t.started then t.resetLine else .released
      serOut := t.serOut ++ startTraffic t.started
        ++ [.tx 0x55, .tx (t.wordAddr.extractLsb' 0 8), .tx (t.wordAddr.extractLsb' 8 8), .tx 0x20]
      ackCount := 0
      wdt := armHandshake t.wdt
      upc := .waitLa } := by
  rw [h.step_payload ((due_first_iff t).mpr ⟨⟨h.upc_blk, hge, hlt⟩, hprog, hpos⟩), decodePayload, effect, openPage_eq]
  rfl

/-- The chunk that completes a page is sent, and the commit is asked for (R143). -/
theorem BlockTurn.step_last (h : BlockTurn s t d) (hprog : t.programs = true) (hge : 2 ≤ t.ci.toNat)
    (hlt : t.ci.toNat < 32) (hpos : (t.ci.toNat - 2) % 8 = 7) :
    step s = .next { t with
      chunkBuf := chunkOf Config.device d t.ci.toNat
      serOut := t.serOut ++ (chunkOf Config.device d t.ci.toNat).map SerEvent.tx ++ [.tx 0x20]
      ackCount := 0
      wdt := armHandshake t.wdt
      upc := .waitPg } :=
  h.step_payload ((due_last_iff t).mpr ⟨⟨h.upc_blk, hge, hlt⟩, hprog, hpos⟩)

/-- The end of a block that completes the transfer (R139, R140). -/
theorem BlockTurn.step_end_completed (h : BlockTurn s t d) (hci : t.ci = 32) (hlive : t.inert = false)
    (hreached : t.expCount ≠ 0x00000000 ∧ t.expCount ≠ 0xFFFFFFFF ∧ t.expCount.toNat ≤ t.writtenCount.toNat) :
    step s = .next { t with
      writtenCount := 0
      serOut := t.serOut ++ [.resetFinish]
      resetLine := .released
      wdt := .done
      blkData := none
      upc := .idle } := by
  rw [h.step_end hci, endOfBlockCompletesWhenReached t h.upc_blk hci, if_pos ⟨hlive, hreached⟩]

/-- The end of any other block (R139). -/
theorem BlockTurn.step_end_released (h : BlockTurn s t d) (hci : t.ci = 32)
    (hnot : t.inert = true
      ∨ ¬ (t.expCount ≠ 0x00000000 ∧ t.expCount ≠ 0xFFFFFFFF ∧ t.expCount.toNat ≤ t.writtenCount.toNat)) :
    step s = .next { t with blkData := none, upc := .idle } := by
  rw [h.step_end hci, endOfBlockCompletesWhenReached t h.upc_blk hci, if_neg]
  rintro ⟨hlive, hreached⟩
  obtain hinert | hnot := hnot
  · simp [hlive] at hinert
  · exact hnot hreached

end

section
variable {s : State} {rest : List Event}

/-- In IDLE a block that is offered first begins (R130). -/
theorem step_wr (lba : BitVec 32) {d : List Byte} (hupc : s.upc = .idle) (hlen : d.length = 512) :
    step { s with events := .wr lba d :: rest }
      = .next { s with events := rest, blkData := some d, ci := 0, upc := .blk } := by
  have hidle : State.isIdle { s with events := .wr lba d :: rest } = true := (isIdle_iff _).mpr hupc
  have hfetch : fetch Config.device { s with events := .wr lba d :: rest }
      = .run ⟨.blockWrite, bytesLE32 lba ++ d⟩ { s with events := rest } := by
    rw [fetch, hidle]
    rfl
  obtain ⟨hexec, -⟩ := wrBeginLatchesBlock { s with events := rest } lba d
  exact (step_eq_exec hfetch (decode_blockWrite lba hlen)).trans (hexec hupc)

/-- An acknowledgment byte that stands first is counted and queued, whatever the position (R205). -/
theorem step_ack (hev : s.events = .rx 0x10 :: rest) :
    step s = .next { s with events := rest, t2h := push 128 s.t2h 0x10, ackCount := s.ackCount + 1 } := by
  have hfetch : fetch Config.device s = .run ⟨.rx, [0x10]⟩ { s with events := rest } := by
    rw [fetch, hev, nextEvent_of_not_waits _ _ rfl]
    rfl
  rw [step_eq_exec (i := .rxAck) hfetch rfl, exec_of_enabled (i := .rxAck) rfl, effect, nextAckCount_device]
  rfl

/-- The answered load-address handshake: the program-page header and the held chunk are sent (R193). -/
theorem step_answered_la (hev : s.events = .seq :: rest) (hupc : s.upc = .waitLa) (hack : s.ackCount ≠ 0) :
    step s = .next { s with
      events := rest
      wdt := endHandshake s.wdt
      serOut := s.serOut ++ [.tx 0x64, .tx 0x00, .tx 0x80, .tx 0x20] ++ s.chunkBuf.map SerEvent.tx
      ci := s.ci + 1
      upc := .blk } := by
  have hacked : State.acked .waitLa { s with events := rest } = true := (acked_iff _ _).mpr ⟨hupc, hack⟩
  rw [step_eq_exec (i := .hsDoneLa) ((fetch_seq hev).trans (sequencerTurn_acked_la hacked)) rfl,
    exec_of_enabled (i := .hsDoneLa) hacked, effect, programPage_eq]

/-- The answered page-commit handshake: one page less, 64 words further (R195). -/
theorem step_answered_pg (hev : s.events = .seq :: rest) (hupc : s.upc = .waitPg) (hack : s.ackCount ≠ 0) :
    step s = .next { s with
      events := rest
      wdt := endHandshake s.wdt
      pagesPending := s.pagesPending - 1
      wordAddr := s.wordAddr + 64
      ci := s.ci + 1
      upc := .blk } := by
  have hacked : State.acked .waitPg { s with events := rest } = true := (acked_iff _ _).mpr ⟨hupc, hack⟩
  rw [step_eq_exec (i := .hsDonePg) ((fetch_seq hev).trans (sequencerTurn_acked_pg hacked)) rfl,
    exec_of_enabled (i := .hsDonePg) hacked, effect, commitPage_eq]

end

/-! ### Runs of payload chunks -/

/-- `ci + 1`, and `n` further chunks. -/
theorem next_ci_add (ci : BitVec 6) (n : Nat) : ci + 1 + BitVec.ofNat 6 n = ci + BitVec.ofNat 6 (n + 1) := by
  rw [BitVec.add_assoc, Nat.add_comm n 1, BitVec.ofNat_add]
  rfl

section
variable {s : State} {d : List Byte}

/-- From a payload chunk of an inert block, or with no page pending, on, the chunks are fetched and discarded (R137). -/
theorem steps_skip (n : Nat) (hev : s.events = []) (hupc : s.upc = .blk) (hd : s.blkData = some d)
    (hlen : d.length = 512) (hprog : s.programs = false) (hge : 2 ≤ s.ci.toNat) (hlt : s.ci.toNat + n < 32) :
    steps (n + 1) s = .next { s with
      chunkBuf := chunkOf Config.device d (s.ci.toNat + n), ci := s.ci + BitVec.ofNat 6 (n + 1) } := by
  induction n generalizing s with
  | zero => exact steps_succ 0 ((BlockTurn.ofNil hev hupc hd hlen).step_skip hprog hge hlt)
  | succ n ih =>
    have hci : (s.ci + 1).toNat = s.ci.toNat + 1 := next_ci_toNat (by omega)
    have hstep := (BlockTurn.ofNil hev hupc hd hlen).step_skip hprog hge (by omega)
    refine (steps_succ _ hstep).trans (Eq.trans (ih hev hupc hd hprog ?_ ?_) ?_)
    · simp only [hci]; omega
    · simp only [hci]; omega
    · simp only [hci, next_ci_add, Nat.add_right_comm _ 1 n, Nat.add_assoc]

/-- The chunks between a page's first and last are sent in order, verbatim, one at each entry that gives the turn to the
sequencer (R142). -/
theorem steps_middle {rest : List Event} (n : Nat) (hev : s.events = List.replicate (n + 1) .seq ++ rest)
    (hupc : s.upc = .blk) (hd : s.blkData = some d) (hlen : d.length = 512) (hprog : s.programs = true)
    (hge : 2 ≤ s.ci.toNat) (hlt : s.ci.toNat + n < 32) (hpos : 0 < (s.ci.toNat - 2) % 8)
    (hpage : (s.ci.toNat - 2) % 8 + n < 7) :
    steps (n + 1) s = .next { s with
      events := rest
      chunkBuf := chunkOf Config.device d (s.ci.toNat + n)
      serOut := s.serOut ++ (chunksFrom d s.ci.toNat (n + 1)).map SerEvent.tx
      ci := s.ci + BitVec.ofNat 6 (n + 1) } := by
  induction n generalizing s with
  | zero =>
    rw [chunksFrom_one]
    exact steps_succ 0 ((BlockTurn.ofSeq hev hupc hd hlen).step_middle hprog hge hlt hpos.ne' hpage.ne)
  | succ n ih =>
    have hci : (s.ci + 1).toNat = s.ci.toNat + 1 := next_ci_toNat (by omega)
    have hstep := (BlockTurn.ofSeq (rest := List.replicate (n + 1) .seq ++ rest) hev hupc hd hlen).step_middle hprog hge
      (by simp only; omega) (by simp only; omega) (by simp only; omega)
    refine (steps_succ _ hstep).trans (Eq.trans (ih rfl hupc hd hprog ?_ ?_ ?_ ?_) ?_)
    · simp only [hci]; omega
    · simp only [hci]; omega
    · simp only [hci]; omega
    · simp only [hci]; omega
    · simp only [hci, next_ci_add, Nat.add_right_comm _ 1 n, Nat.add_assoc, chunksFrom_succ d s.ci.toNat,
        List.map_append, List.append_assoc]

end

/-! ### One page (R190) -/

/-- The traffic of a page of 8 chunks, as the operations send it: address and header, the held chunk, the six middle
chunks, the last chunk and the commit. -/
theorem pageTraffic_chunks (w : BitVec 16) (d : List Byte) (i : Nat) :
    pageTraffic w ((d.drop (16 * i)).take 128) =
      [.tx 0x55, .tx (w.extractLsb' 0 8), .tx (w.extractLsb' 8 8), .tx 0x20]
        ++ [.tx 0x64, .tx 0x00, .tx 0x80, .tx 0x20] ++ (chunkOf Config.device d i).map SerEvent.tx
        ++ (chunksFrom d (i + 1) 6).map SerEvent.tx
        ++ (chunkOf Config.device d (i + 7)).map SerEvent.tx ++ [.tx 0x20] := by
  have hbytes : (d.drop (16 * i)).take 128 =
      chunkOf Config.device d i ++ (chunksFrom d (i + 1) 6 ++ chunkOf Config.device d (i + 7)) := by
    rw [show (d.drop (16 * i)).take 128 = chunksFrom d i 8 from rfl, chunksFrom_succ, chunksFrom_succ_last d (i + 1),
      Nat.add_right_comm, Nat.add_assoc]
  simp [pageTraffic, hbytes]

section
variable {s : State} {d : List Byte} {rest : List Event}

/-- A page is opened and its first handshake is answered (R141, R193): the address, the header and the held chunk are
sent, and the watchdog is as it was. -/
theorem steps_openPage (hev : s.events = .seq :: .rx 0x10 :: .seq :: rest) (hupc : s.upc = .blk)
    (hd : s.blkData = some d) (hlen : d.length = 512) (hprog : s.programs = true) (hge : 2 ≤ s.ci.toNat)
    (hlt : s.ci.toNat < 32) (hpos : (s.ci.toNat - 2) % 8 = 0) (hwdt : s.wdt ≠ .hs) :
    steps 3 s = .next { s with
      events := rest
      chunkBuf := chunkOf Config.device d s.ci.toNat
      started := true
      resetLine := if s.started then s.resetLine else .released
      serOut := s.serOut ++ startTraffic s.started
        ++ [.tx 0x55, .tx (s.wordAddr.extractLsb' 0 8), .tx (s.wordAddr.extractLsb' 8 8), .tx 0x20]
        ++ [.tx 0x64, .tx 0x00, .tx 0x80, .tx 0x20] ++ (chunkOf Config.device d s.ci.toNat).map SerEvent.tx
      ackCount := 1
      t2h := push 128 s.t2h 0x10
      ci := s.ci + 1 } := by
  have hopen := (BlockTurn.ofSeq hev hupc hd hlen).step_open hprog hge hlt hpos
  rw [steps_succ 2 hopen, steps_succ 1 (step_ack rfl), steps_succ 0 (step_answered_la rfl rfl (by simp)), steps_zero,
    endHandshake_armHandshake hwdt, ← hupc]
  rfl

/-- A page's last chunk is sent and its commit is answered (R143, R195): one page less, 64 words further, and the
watchdog is as it was. -/
theorem steps_closePage (hev : s.events = .seq :: .rx 0x10 :: .seq :: rest) (hupc : s.upc = .blk)
    (hd : s.blkData = some d) (hlen : d.length = 512) (hprog : s.programs = true) (hge : 2 ≤ s.ci.toNat)
    (hlt : s.ci.toNat < 32) (hpos : (s.ci.toNat - 2) % 8 = 7) (hwdt : s.wdt ≠ .hs) :
    steps 3 s = .next { s with
      events := rest
      chunkBuf := chunkOf Config.device d s.ci.toNat
      serOut := s.serOut ++ (chunkOf Config.device d s.ci.toNat).map SerEvent.tx ++ [.tx 0x20]
      ackCount := 1
      t2h := push 128 s.t2h 0x10
      pagesPending := s.pagesPending - 1
      wordAddr := s.wordAddr + 64
      ci := s.ci + 1 } := by
  have hlast := (BlockTurn.ofSeq hev hupc hd hlen).step_last hprog hge hlt hpos
  rw [steps_succ 2 hlast, steps_succ 1 (step_ack rfl), steps_succ 0 (step_answered_pg rfl rfl (by simp)), steps_zero,
    endHandshake_armHandshake hwdt, ← hupc]
  rfl

/-- One page of a live block, whole, with a target that acknowledges both handshakes (R190): 3 turns open it, 6 send its
middle chunks, 3 close it. -/
theorem steps_page (hev : s.events = pageTurns ++ rest) (hupc : s.upc = .blk) (hd : s.blkData = some d)
    (hlen : d.length = 512) (hprog : s.programs = true) (hge : 2 ≤ s.ci.toNat) (hle : s.ci.toNat ≤ 18)
    (hpos : (s.ci.toNat - 2) % 8 = 0) (hwdt : s.wdt ≠ .hs) :
    steps 12 s = .next { s with
      events := rest
      chunkBuf := chunkOf Config.device d (s.ci.toNat + 7)
      started := true
      resetLine := if s.started then s.resetLine else .released
      serOut := s.serOut ++ startTraffic s.started
        ++ pageTraffic s.wordAddr ((d.drop (16 * s.ci.toNat)).take 128)
      ackCount := 1
      t2h := push 128 (push 128 s.t2h 0x10) 0x10
      pagesPending := s.pagesPending - 1
      wordAddr := s.wordAddr + 64
      ci := s.ci + 8 } := by
  have hci : (s.ci + 1).toNat = s.ci.toNat + 1 := next_ci_toNat (by omega)
  have hci7 : (s.ci + 1 + BitVec.ofNat 6 6).toNat = s.ci.toNat + 7 := by
    rw [BitVec.toNat_add, hci]
    exact Nat.mod_eq_of_lt (by simp; omega)
  have hci8 : s.ci + 1 + BitVec.ofNat 6 6 + 1 = s.ci + 8 := by rw [next_ci_add, BitVec.add_assoc]; rfl
  have hopen := steps_openPage hev hupc hd hlen hprog hge (by omega) hpos hwdt
  rw [steps_add 9 hopen]
  refine Eq.trans (steps_add 3 (steps_middle (rest := .seq :: .rx 0x10 :: .seq :: rest) 5 rfl hupc hd hlen hprog
    ?_ ?_ ?_ ?_)) (Eq.trans (steps_closePage rfl hupc hd hlen hprog ?_ ?_ ?_ hwdt) ?_)
  iterate 4 · simp only [hci]; omega
  iterate 3 · simp only [hci7]; omega
  simp only [hci, hci7, hci8, pageTraffic_chunks, List.append_assoc]

end

/-! ### Whole blocks (R144, R145) -/

section
variable {s : State} {d : List Byte}

/-- A block that is not live, up to its payload: `inert` is set, and nothing else of the device's state changes but the
scratch registers (R130, R132, R133). -/
theorem steps_inertHead (lba : BitVec 32) (hupc : s.upc = .idle) (hlen : d.length = 512)
    (hinert : ¬ Uf2Live d) :
    steps 3 { s with events := [.wr lba d] } = .next { s with
      events := [], blkData := some d, upc := .blk, ci := 2, inert := true
      chunkBuf := chunkOf Config.device d 1 } := by
  rw [steps_succ 2 (step_wr lba hupc hlen),
    steps_succ 1 ((BlockTurn.ofNil rfl rfl rfl hlen).step_header_inert rfl hinert),
    steps_succ 0 ((BlockTurn.ofNil rfl rfl rfl hlen).step_metadata_inert rfl rfl), steps_zero]

/-- A live block, up to its payload: the word address of its header and the transfer state of its metadata (R130,
R132 to R136). -/
theorem steps_liveHead (lba : BitVec 32) (rest : List Event) (hupc : s.upc = .idle) (hlen : d.length = 512)
    (hlive : Uf2Live d) :
    steps 3 { s with events := .wr lba d :: .seq :: .seq :: rest } = .next { s with
      events := rest
      blkData := some d
      upc := .blk
      ci := 2
      inert := false
      chunkBuf := chunkOf Config.device d 1
      wordAddr := le16 d 12 >>> 1
      pagesPending := (le32 d 16 >>> 7).setWidth 25
      expCount := nextExpCount Config.device s.expCount (le32 d 24)
      bitmap := recordIndex Config.device s.bitmap (le32 d 20)
      writtenCount := countIndex Config.device s.bitmap s.writtenCount (le32 d 20) } := by
  rw [steps_succ 2 (step_wr lba hupc hlen),
    steps_succ 1 ((BlockTurn.ofSeq rfl rfl rfl hlen).step_header_live rfl hlive),
    steps_succ 0 ((BlockTurn.ofSeq rfl rfl rfl hlen).step_metadata_live rfl rfl), steps_zero]

end

/-- A declared size of 128 to 255 bytes is one page (R134). -/
theorem pages_eq_one {v : BitVec 32} (hge : 128 ≤ v.toNat) (hlt : v.toNat < 256) : (v >>> 7).setWidth 25 = 1#25 := by
  apply BitVec.eq_of_toNat_eq
  rw [BitVec.toNat_setWidth, BitVec.toNat_ushiftRight, Nat.shiftRight_eq_div_pow]
  simp
  omega

/-- Settles O58: the head sets `inert`, the 30 payload chunks are skipped, and an inert block does not complete. -/
theorem inertBlockChangesNothing : Obligations.InertBlockChangesNothing := by
  intro s lba d hupc hlen hinert
  rw [steps_add 31 (steps_inertHead lba hupc hlen hinert),
    steps_add 1 (steps_skip 29 rfl rfl rfl hlen (programs_eq_false (.inl rfl)) (by simp) (by simp)),
    steps_succ 0 ((BlockTurn.ofNil rfl rfl rfl hlen).step_end_released rfl (.inl rfl)), steps_zero]
  have hlast : (d.drop 496).take 16 = chunkOf Config.device d 31 := (chunkOf_device d 31).symm
  simp [hlast, hupc]

/-- A live block of one page, up to its end: after the head and the page no page is pending, and the other 22 payload
chunks are skipped (R134, R137, R190). -/
theorem steps_onePageBlock {s : State} (lba : BitVec 32) {d : List Byte} (hupc : s.upc = .idle) (hwdt : s.wdt ≠ .hs)
    (hlen : d.length = 512) (hlive : Uf2Live d) (hge : 128 ≤ (le32 d 16).toNat) (hlt : (le32 d 16).toNat < 256) :
    steps 37 { s with events := .wr lba d :: .seq :: .seq :: pageTurns } = .next { s with
      events := []
      blkData := some d
      upc := .blk
      ci := 32
      inert := false
      chunkBuf := chunkOf Config.device d 31
      wordAddr := le16 d 12 >>> 1 + 64
      pagesPending := 0
      expCount := nextExpCount Config.device s.expCount (le32 d 24)
      bitmap := recordIndex Config.device s.bitmap (le32 d 20)
      writtenCount := countIndex Config.device s.bitmap s.writtenCount (le32 d 20)
      started := true
      resetLine := if s.started then s.resetLine else .released
      serOut := s.serOut ++ startTraffic s.started ++ pageTraffic (le16 d 12 >>> 1) ((d.drop 32).take 128)
      ackCount := 1
      t2h := push 128 (push 128 s.t2h 0x10) 0x10 } := by
  have hhead := steps_liveHead lba pageTurns hupc hlen hlive
  rw [pages_eq_one hge hlt] at hhead
  refine Eq.trans (steps_add 34 hhead) (Eq.trans (steps_add 22
    (steps_page (List.append_nil pageTurns).symm rfl rfl hlen rfl (by simp) (by simp) (by simp) hwdt)) ?_)
  rw [steps_skip 21 rfl rfl rfl hlen (programs_eq_false (.inr (by simp))) (by simp) (by simp)]
  simp

/-- Settles O60: the block up to its end, and then WR_END, which completes the transfer exactly where the count is
reached. -/
theorem onePageBlockEndToEnd : Obligations.OnePageBlockEndToEnd := by
  intro s lba d hupc hwdt hlen hmagic hflag hge hlt w e n fin
  have hblock := steps_onePageBlock lba hupc hwdt hlen ⟨hmagic, hflag⟩ hge hlt
  by_cases hfin : fin
  · refine ⟨_, Eq.trans (steps_add 1 hblock)
      (steps_succ 0 (BlockTurn.step_end_completed (.ofNil rfl rfl rfl hlen) rfl rfl hfin)), ?_⟩
    simp [if_pos hfin, w, e]
  · refine ⟨_, Eq.trans (steps_add 1 hblock)
      (steps_succ 0 (BlockTurn.step_end_released (.ofNil rfl rfl rfl hlen) rfl (.inr hfin))), ?_⟩
    simp [if_neg hfin, w, e, n]

end Sys2Proof.Machine
end

section
/-! The proofs about `41_fat16_synth.md`: the regions of the read path (R161), one block for every read (R160), and the
bytes of each region on this hardware (R162 to R166). The boot sector, the FAT, the root directory and the data region
each have a layer of their own, their lengths in every valid configuration and then their bytes; an obligation takes its
block numbers to their regions by `readBlock_fat` to `readBlock_beyond` and cites the region's bytes. -/

namespace Sys2Proof.Machine

/-! ### The regions (R161) -/

/-- In every configuration block 0 is the boot sector. -/
theorem readBlock_zero (cfg : Config) : readBlock cfg 0 = bootSector cfg := if_pos rfl

/-- The regions in this hardware's block numbers (R73). -/
theorem readBlock_device (lba : BitVec 32) : readBlock Config.device lba =
    if lba.toNat = 0 then bootSector Config.device
    else if lba.toNat < 65 then fatSector Config.device lba
    else if lba.toNat < 69 then rootSector Config.device lba
    else if lba.toNat - 69 < 2 then dataSector Config.device lba
    else zeroSector := by
  rw [readBlock, Config.device_startRootdir, Config.device_startClusters, Config.device_numInfo]

theorem readBlock_fat {lba : BitVec 32} (hge : 1 ≤ lba.toNat) (hlt : lba.toNat < 65) :
    readBlock Config.device lba = fatSector Config.device lba := by
  rw [readBlock_device, if_neg (by omega), if_pos hlt]

theorem readBlock_root {lba : BitVec 32} (hge : 65 ≤ lba.toNat) (hlt : lba.toNat < 69) :
    readBlock Config.device lba = rootSector Config.device lba := by
  rw [readBlock_device, if_neg (by omega), if_neg (by omega), if_pos hlt]

theorem readBlock_data {lba : BitVec 32} (hge : 69 ≤ lba.toNat) (hlt : lba.toNat < 71) :
    readBlock Config.device lba = dataSector Config.device lba := by
  rw [readBlock_device, if_neg (by omega), if_neg (by omega), if_neg (by omega), if_pos (by omega)]

theorem readBlock_beyond {lba : BitVec 32} (hge : 71 ≤ lba.toNat) : readBlock Config.device lba = zeros 512 := by
  rw [readBlock_device, if_neg (by omega), if_neg (by omega), if_neg (by omega), if_neg (by omega), zeroSector]

/-- Settles O25: in IDLE a read is enabled, and its effect answers the sector that its region gives. -/
theorem readsAnswerReadBlock : Obligations.ReadsAnswerReadBlock := by
  intro s lba hidle
  have hen : s.isIdle = true := (isIdle_iff s).mpr hidle
  refine ⟨?_, fun hge hlt => ?_, fun hge hlt => ?_, fun hge hlt => ?_, fun hge => ?_⟩
  · rw [readBlock_zero]; exact exec_of_enabled (i := .rdBoot) hen
  · rw [readBlock_fat hge hlt]; exact exec_of_enabled (i := .rdFat lba) hen
  · rw [readBlock_root hge hlt]; exact exec_of_enabled (i := .rdRoot lba) hen
  · rw [readBlock_data hge hlt]; exact exec_of_enabled (i := .rdData lba) hen
  · rw [readBlock_beyond hge]; exact exec_of_enabled (i := .rdZero lba) hen

/-! ### One sector's bytes -/

/-- A sector with no leading bytes is all zero. -/
theorem sector_nil : sector [] = zeros 512 := rfl

/-- A sector whose leading bytes are counted. -/
theorem sector_of_length {bs : List Byte} {n : Nat} (h : bs.length = n) : sector bs = bs ++ zeros (512 - n) := by
  rw [sector, h]

/-! ### The files (R167, R168) -/

/-- File 0 is the identity string, in every configuration. -/
theorem fileContent_zero (cfg : Config) : fileContent cfg 0 = cfg.ident := rfl

/-- File 1 is the redirect page, in every configuration. -/
theorem fileContent_one (cfg : Config) : fileContent cfg 1 = cfg.html := rfl

/-! ### The boot sector (R162) -/

theorem bootHead_length (cfg : Config) : (bootHead cfg).length = 36 := rfl

theorem bootTail_length (cfg : Config) : (bootTail cfg).length = 26 := by
  simp [bootTail, fsType, bytesLE32]

/-- The signature stands at bytes 510 and 511. -/
theorem bootSector_before_signature_length (cfg : Config) :
    (bootHead cfg ++ bootTail cfg ++ zeros 448).length = 510 := by
  simp [bootHead_length, bootTail_length]

theorem bootSector_length (cfg : Config) : (bootSector cfg).length = 512 := by
  rw [bootSector, List.length_append, bootSector_before_signature_length]
  rfl

theorem bootSector_signature (cfg : Config) : (bootSector cfg).drop 510 = [0x55#8, 0xAA#8] :=
  List.drop_left' (bootSector_before_signature_length cfg)

/-- The sector size stands after the jump and the OEM name, eleven bytes that are no parameters either. -/
theorem bootSector_sectorSize (cfg : Config) : ((bootSector cfg).drop 11).take 2 = [0x00#8, 0x02#8] := rfl

/-- Bytes 0 to 61 on this hardware, as R162 lists them. -/
theorem bootHead_append_bootTail_device : bootHead Config.device ++ bootTail Config.device =
    [0xEB, 0x3C, 0x90, 0x55, 0x46, 0x32, 0x20, 0x55, 0x46, 0x32, 0x20, 0x00, 0x02, 0x01, 0x01, 0x00,
      0x02, 0x40, 0x00, 0x40, 0x1F, 0xF8, 0x20, 0x00, 0x01, 0x00, 0x01, 0x00, 0x00, 0x00, 0x00, 0x00,
      0x00, 0x00, 0x00, 0x00, 0x00, 0x00, 0x29, 0x42, 0x00, 0x42, 0x00, 0x55, 0x46, 0x32, 0x2D, 0x55,
      0x4E, 0x4F, 0x20, 0x20, 0x20, 0x20, 0x46, 0x41, 0x54, 0x31, 0x36, 0x20, 0x20, 0x20] := by
  decide

/-- Settles O26: length, signature and sector size in every configuration, and this hardware's 62 leading bytes. -/
theorem bootSectorForEveryConfiguration : Obligations.BootSectorForEveryConfiguration := by
  refine ⟨fun cfg _ => ?_, ?_⟩
  · rw [readBlock_zero]
    exact ⟨bootSector_length cfg, bootSector_signature cfg, bootSector_sectorSize cfg⟩
  · rw [readBlock_zero, bootSector, bootHead_append_bootTail_device]

/-! ### The FAT (R163) -/

/-- The marker and the files' entries fit one sector (R7). -/
theorem fatTable_length {cfg : Config} (h : cfg.valid = true) (s : Nat) : (fatTable cfg s).length = 512 := by
  obtain ⟨-, -, hfiles⟩ := Config.valid_files h
  apply sector_length
  split
  · simp only [List.length_append, List.length_cons, List.length_nil, List.length_replicate]
    omega
  · simp

/-- A FAT read is one block, in the reserved sectors as in the two copies. -/
theorem fatSector_length {cfg : Config} (h : cfg.valid = true) (lba : BitVec 32) :
    (fatSector cfg lba).length = 512 := by
  by_cases hreserved : lba.toNat < cfg.startFat0
  · rw [fatSector, if_pos hreserved, Vector.length_toList]
  · rw [fatSector_of_le (Nat.le_of_not_lt hreserved)]
    exact fatTable_length h _

/-- After its first sector a FAT copy is all zero. -/
theorem fatTable_of_ne_zero (cfg : Config) {s : Nat} (h : s ≠ 0) : fatTable cfg s = zeros 512 := by
  rw [fatTable, if_neg h, sector_nil]

/-- The first sector on this hardware: the media marker, end of chain, and one entry for each of the two files. -/
theorem fatTable_zero_device : fatTable Config.device 0 =
    [0xF8#8, 0xFF#8, 0xFF#8, 0xFF#8, 0xFF#8, 0xFF#8, 0xFF#8, 0xFF#8] ++ zeros 504 := rfl

/-- A read of the FAT region in this hardware's block numbers: both copies start over at sector 0. -/
theorem readBlock_fatTable {lba : BitVec 32} (hge : 1 ≤ lba.toNat) (hlt : lba.toNat < 65) :
    readBlock Config.device lba =
      fatTable Config.device (if lba.toNat - 1 ≥ 32 then lba.toNat - 1 - 32 else lba.toNat - 1) := by
  have hfat : Config.device.startFat0 ≤ lba.toNat := by rwa [Config.device_startFat0]
  rw [readBlock_fat hge hlt, fatSector_of_le hfat, Config.device_startFat0, Config.device_sectorsPerFat]

/-- The first copy in this hardware's block numbers. -/
theorem readBlock_firstFat {lba : BitVec 32} (hge : 1 ≤ lba.toNat) (hle : lba.toNat ≤ 32) :
    readBlock Config.device lba = fatTable Config.device (lba.toNat - 1) := by
  rw [readBlock_fatTable hge (by omega), if_neg (by omega)]

/-- The second copy in this hardware's block numbers. -/
theorem readBlock_secondFat {lba : BitVec 32} (hge : 33 ≤ lba.toNat) (hlt : lba.toNat < 65) :
    readBlock Config.device lba = fatTable Config.device (lba.toNat - 1 - 32) := by
  rw [readBlock_fatTable (by omega) hlt, if_pos (by omega)]

/-- Settles O28: both blocks are the same sector of a copy, the first one or a later one. -/
theorem fatCopiesAreIdentical : Obligations.FatCopiesAreIdentical := by
  intro lba hge hle
  have hcopy : (lba + 32).toNat = lba.toNat + 32 := by bv_omega
  rw [readBlock_firstFat hge hle]
  refine ⟨?_, ?_, fun hne => fatTable_of_ne_zero _ ?_⟩
  · rw [readBlock_secondFat (by omega) (by omega), hcopy, Nat.sub_right_comm, Nat.add_sub_cancel]
  · rintro rfl
    exact fatTable_zero_device
  · have hone : lba.toNat ≠ 1 := fun h => hne (BitVec.eq_of_toNat_eq h)
    omega

/-! ### The root directory (R164) -/

/-- The label and the files' entries fit one sector (R7). -/
theorem rootSector_length {cfg : Config} (h : cfg.valid = true) (lba : BitVec 32) :
    (rootSector cfg lba).length = 512 := by
  obtain ⟨-, -, hfiles⟩ := Config.valid_files h
  apply sector_length
  split
  · have hentries : ((List.range cfg.numInfo).flatMap (fileEntry cfg)).length = cfg.numInfo * 32 := by
      simp [List.length_flatMap, fileEntry]
    rw [List.length_append, hentries, labelEntry, dirEntry_length]
    omega
  · simp

/-- After its first sector the root directory is all zero. -/
theorem rootSector_of_ne_zero {cfg : Config} {lba : BitVec 32} (h : lba.toNat - cfg.startRootdir ≠ 0) :
    rootSector cfg lba = zeros 512 := by
  rw [rootSector, if_neg h, sector_nil]

theorem readBlock_laterRoot {lba : BitVec 32} (hge : 66 ≤ lba.toNat) (hlt : lba.toNat < 69) :
    readBlock Config.device lba = zeros 512 := by
  rw [readBlock_root (by omega) hlt, rootSector_of_ne_zero (by rw [Config.device_startRootdir]; omega)]

theorem labelEntry_device : labelEntry Config.device =
    [0x55, 0x46, 0x32, 0x2D, 0x55, 0x4E, 0x4F, 0x20, 0x20, 0x20, 0x20, 0x28] ++ zeros 20 := by
  decide

/-- The identity file: start cluster 2, 56 bytes. -/
theorem fileEntry_ident_device : fileEntry Config.device 0 =
    [0x49, 0x4E, 0x46, 0x4F, 0x5F, 0x55, 0x46, 0x32, 0x54, 0x58, 0x54, 0x00] ++ zeros 14
      ++ [0x02, 0x00, 0x38, 0x00, 0x00, 0x00] := by
  rw [fileEntry, fileContent_zero, Config.device_ident_length]
  decide

/-- The redirect page: start cluster 3, 117 bytes. -/
theorem fileEntry_html_device : fileEntry Config.device 1 =
    [0x49, 0x4E, 0x44, 0x45, 0x58, 0x20, 0x20, 0x20, 0x48, 0x54, 0x4D, 0x00] ++ zeros 14
      ++ [0x03, 0x00, 0x75, 0x00, 0x00, 0x00] := by
  rw [fileEntry, fileContent_one, Config.device_html_length]
  decide

/-- The first root sector on this hardware: three entries of 32 bytes and zeros. -/
theorem rootSector_first_device : rootSector Config.device 65 =
    labelEntry Config.device ++ fileEntry Config.device 0 ++ fileEntry Config.device 1 ++ zeros 416 := by
  have hentries : (List.range Config.device.numInfo).flatMap (fileEntry Config.device) =
      fileEntry Config.device 0 ++ fileEntry Config.device 1 := by
    simp [List.range_succ]
  have hlength :
      (labelEntry Config.device ++ (fileEntry Config.device 0 ++ fileEntry Config.device 1)).length = 96 := by
    simp [labelEntry, fileEntry]
  rw [rootSector, if_pos (by simp), hentries, sector_of_length hlength, ← List.append_assoc]

/-- Settles O29: the first sector entry by entry, the others by their place in the directory. -/
theorem rootDirectoryListsLabelAndFiles : Obligations.RootDirectoryListsLabelAndFiles := by
  refine ⟨?_, readBlock_laterRoot (by decide) (by decide), readBlock_laterRoot (by decide) (by decide),
    readBlock_laterRoot (by decide) (by decide)⟩
  rw [readBlock_root (by decide) (by decide), rootSector_first_device, labelEntry_device, fileEntry_ident_device,
    fileEntry_html_device]
  simp only [List.append_assoc]

/-! ### The data region (R165, R166, R168) -/

/-- A file's sector on this hardware: its bytes, whose number is known, and zeros. -/
theorem readBlock_file {lba : BitVec 32} {i n : Nat} {bs : List Byte} (hlba : lba.toNat = 69 + i) (hi : i < 2)
    (hcontent : fileContent Config.device i = bs) (hlength : bs.length = n) :
    readBlock Config.device lba = bs ++ zeros (512 - n) := by
  have hindex : lba.toNat - Config.device.startClusters = i := by
    rw [Config.device_startClusters, hlba, Nat.add_sub_cancel_left]
  rw [readBlock_data (by omega) (by omega), dataSector, hindex, hcontent, sector_of_length hlength]

/-- Settles O30: the two files' contents, which evaluate to the written bytes, with their lengths, and the region
without files from block 71 up. -/
theorem dataRegionHoldsFilesThenZeros : Obligations.DataRegionHoldsFilesThenZeros :=
  ⟨readBlock_file rfl (by decide) (fileContent_zero _) Config.device_ident_length,
    readBlock_file rfl (by decide) (fileContent_one _) Config.device_html_length, fun _ hge => readBlock_beyond hge⟩

/-! ### Every block (R160) -/

/-- Settles O27: each of R161's five regions answers one block. -/
theorem everyReadHasOneBlock : Obligations.EveryReadHasOneBlock := by
  intro cfg lba hvalid
  unfold readBlock
  split_ifs
  · exact bootSector_length cfg
  · exact fatSector_length hvalid lba
  · exact rootSector_length hvalid lba
  · exact sector_length (fileContent_length_le hvalid _)
  · exact zeros_length 512

end Sys2Proof.Machine
end

section
/-! The proofs about `42_serial_programmer.md`: the two answered handshakes (R193, R195), the received bytes and the
relayed byte (R205 to R207), and one page from its first chunk to its commit (R190). A page is the run `steps_page` of
the write path, so its obligation is a reading of that run's end state. -/

namespace Sys2Proof.Machine

/-! ### The operations of the serial side -/

/-- The end of a wait disarms a watchdog that the handshake armed and leaves any other (R193, R195). -/
theorem endHandshake_eq (w : Wdt) : endHandshake w = if w = .hs then .off else w := by cases w <;> rfl

/-- A received byte is queued in `t2h` unless it holds 128 bytes (R205, R206). -/
theorem receive_device (s : State) (b : Byte) : s.receive Config.device b =
    { s with t2h := if s.t2h.length < 128 then s.t2h ++ [b] else s.t2h } := rfl

/-- Settles O23: the effect is `programPage_eq`, with the watchdog by `endHandshake_eq`. -/
theorem loadAddressAcknowledgedSendsProgramPage : Obligations.LoadAddressAcknowledgedSendsProgramPage := by
  intro s hupc hack
  have hacked : s.acked .waitLa = true := (acked_iff s _).mpr ⟨hupc, hack⟩
  rw [exec_of_enabled (i := .hsDoneLa) hacked, effect, programPage_eq, endHandshake_eq]

/-- Settles O24: the effect is `commitPage_eq`, with the watchdog by `endHandshake_eq`. -/
theorem pageCommittedAdvancesAddress : Obligations.PageCommittedAdvancesAddress := by
  intro s hupc hack
  have hacked : s.acked .waitPg = true := (acked_iff s _).mpr ⟨hupc, hack⟩
  rw [exec_of_enabled (i := .hsDonePg) hacked, effect, commitPage_eq, endHandshake_eq]

/-- Settles O37: the effect is `drainOne_eq`, at a ring whose head and tail are given. -/
theorem drainSendsTheHead : Obligations.DrainSendsTheHead := by
  intro s b rest hidle hring
  have hready : s.canDrain = true := (canDrain_iff s).mpr ⟨hidle, by simp [hring]⟩
  rw [exec_of_enabled (i := .drain) hready, effect, drainOne_eq, hring]
  rfl

/-- Settles O38: in every state, for RX_ACK is always enabled. -/
theorem acknowledgmentIsCountedAndQueued : Obligations.AcknowledgmentIsCountedAndQueued := by
  intro s
  rw [exec_of_enabled (i := .rxAck) rfl, effect, receive_device, nextAckCount_device]
  rfl

/-- Settles O39: in every state, for RX_OTHER is always enabled. -/
theorem otherByteIsQueued : Obligations.OtherByteIsQueued := by
  intro s b _
  rw [exec_of_enabled (i := .rxOther b) rfl, effect, receive_device]

/-! ### One page (R190) -/

/-- Settles O59: the fields of the end state that `steps_page` gives; from chunk 18 at the latest, the position does not
wrap. -/
theorem onePageEndToEnd : Obligations.OnePageEndToEnd := by
  intro s d rest hupc hdata hlen hge hle hpos hlive hpending hwdt hev
  have hprog : s.programs = true := (programs_iff s).mpr ⟨hlive, hpending⟩
  have hci : (s.ci + 8).toNat = s.ci.toNat + 8 := by
    rw [BitVec.toNat_add]
    exact Nat.mod_eq_of_lt (by simp; omega)
  exact ⟨_, steps_page hev hupc hdata hlen hprog hge hle hpos hwdt, rfl, rfl, rfl, hci, hupc, rfl, rfl, hlive, hdata,
    rfl, rfl, rfl, rfl, rfl, rfl, rfl⟩

end Sys2Proof.Machine
end

section
/-! The proofs about `43_hid_hf2.md`: the tunnel (R231), the one packet of every command (R235), the flush flag and the
relay (R239, R240). Which operation a packet selects is `decode_hidTunnel` and `decode_hidCommand`, and the bytes of the
replies are O33's. -/

namespace Sys2Proof.Machine

/-! ### The tunnel (R231) -/

/-- Pushing bytes on a ring appends the first ones, as many as it has room for (R38). -/
theorem pushAll_eq_append_take {cap : Nat} {r : List Byte} (bs : List Byte) (h : r.length ≤ cap) :
    pushAll cap r bs = r ++ bs.take (cap - r.length) := by
  rw [pushAll_eq_take bs h, List.take_append, List.take_of_length_le h]

/-- A tunnel packet in IDLE, whatever its count: of the bytes that it names, `h2t` takes those it has room for (R231;
above 63 by log 8). -/
theorem exec_hidTunnel {s : State} (k : BitVec 7) (body : List Byte) (hidle : s.upc = .idle)
    (hcap : s.h2t.length ≤ 128) :
    exec (.hidTunnel k body) s =
      .next { s with h2t := s.h2t ++ (tunnelBytes k body).take (128 - s.h2t.length) } := by
  have hen : enabled (.hidTunnel k body) s = true := (isIdle_iff s).mpr hidle
  rw [exec_of_enabled hen, effect, Config.device_h2tCap, pushAll_eq_append_take _ hcap]

/-- Settles O31: of `take (128 - h2t.length)` and `take k`, the one that leaves fewer bytes decides. -/
theorem tunnelAppendsItsBytes : Obligations.TunnelAppendsItsBytes := by
  intro s k body hidle _ _ hcap
  rw [exec_hidTunnel k body hidle hcap, tunnelBytes, List.take_take]
  refine ⟨fun hroom => ?_, fun hfull => ?_⟩
  · rw [min_eq_right (by omega)]
  · rw [min_eq_left (by omega)]

/-! ### The commands (R235) -/

/-- Every command is taken in IDLE (R92). -/
theorem enabled_hidCommandOf (cmd : BitVec 32) (tag : BitVec 16) (s : State) :
    enabled (hidCommandOf cmd tag) s = s.isIdle := by
  unfold hidCommandOf
  split
  · rfl
  · split <;> rfl

/-- Every command does nothing but send a reply that fits one packet (R236 to R238). -/
theorem effect_hidCommandOf (cmd : BitVec 32) (tag : BitVec 16) (s : State) :
    ∃ body : List Byte, body.length ≤ 63 ∧ effect (hidCommandOf cmd tag) s = s.sendReply Config.device body := by
  unfold hidCommandOf
  split
  · exact ⟨replyHeader tag Config.device.stOk ++ bininfoData Config.device, by simp, rfl⟩
  · split
    · exact ⟨replyHeader tag Config.device.stOk ++ Config.device.ident, by simp, rfl⟩
    · exact ⟨replyHeader tag Config.device.stInvalid, by simp, rfl⟩

/-- Settles O34: the flag of the first byte selects a command, which only replies, or the tunnel, which only fills
`h2t`. -/
theorem everyCommandSendsOnePacket : Obligations.EveryCommandSendsOnePacket := by
  intro s p i hidle hlen hdecode
  have hen : s.isIdle = true := (isIdle_iff s).mpr hidle
  refine ⟨fun hclear => ?_, fun hset => ?_⟩
  · obtain rfl : hidCommandOf (le32 p 1) (le16 p 5) = i :=
      Except.ok.inj ((decode_hidCommand hlen hclear).symm.trans hdecode)
    obtain ⟨body, hbody, heff⟩ := effect_hidCommandOf (le32 p 1) (le16 p 5) s
    exact ⟨framedPacket Config.device body, framedPacket_length body hbody,
      exec_reply ((enabled_hidCommandOf ..).trans hen) heff hbody rfl⟩
  · obtain rfl : Instr.hidTunnel ((byteAt p 0).setWidth 7) (p.drop 1) = i :=
      Except.ok.inj ((decode_hidTunnel hlen hset).symm.trans hdecode)
    exact ⟨_, exec_of_enabled (i := .hidTunnel _ _) hen⟩

/-! ### The flush flag and the relay (R239, R240) -/

/-- Settles O35: FLUSH_TICK is enabled in IDLE, and the flag is its whole effect. -/
theorem flushTickSetsFlag : Obligations.FlushTickSetsFlag := by
  intro s hidle
  exact exec_of_enabled (i := .flushTick) ((isIdle_iff s).mpr hidle)

/-- A framed packet's bytes: the flag and the count, the body, zeros (R108, R109). -/
theorem framedPacket_eq {body : List Byte} (h : body.length ≤ 63) :
    framedPacket Config.device body =
      (0x80#8 ||| BitVec.ofNat 8 body.length) :: (body ++ zeros (63 - body.length)) := by
  have hframing : ∀ n ≤ 63, framingByte Config.device (BitVec.ofNat 7 n) = 0x80#8 ||| BitVec.ofNat 8 n := by decide
  rw [framedPacket, hframing _ h]
  rfl

/-- Bytes remain after a relay exactly where more than 63 were queued (R240). -/
theorem drop_relayed_ne_nil_iff (bs : List Byte) : bs.drop (min 63 bs.length) ≠ [] ↔ 63 < bs.length := by
  rw [ne_eq, List.drop_eq_nil_iff]
  omega

/-- Settles O36: the effect is `relayOut_eq`, with the packet by `framedPacket_eq`. -/
theorem relaySendsOnePacket : Obligations.RelaySendsOnePacket := by
  intro s hidle hflush hqueued n q
  have hready : s.canRelay = true := (canRelay_iff s).mpr ⟨hidle, hflush, hqueued⟩
  have hcount : (s.t2h.take n).length = n := List.length_take_of_le (min_le_right ..)
  have hpacket : framedPacket Config.device (s.t2h.take n) = q := by
    rw [framedPacket_eq (hcount.trans_le (min_le_left ..)), hcount]
  rw [exec_of_enabled (i := .relay) hready, effect, relayOut_eq, hpacket]
  simp only [drop_relayed_ne_nil_iff]
  rfl

end Sys2Proof.Machine
end

section
/-! The proofs about `44_common_laws.md`: the one operation that applies at each position of a block (R247), the totality
of the step on events of the spec (R251), and the position that every operation leaves (R247). That a step never stops
is a matter of its fetch: an operation answers a next state everywhere (`exec_eq`), so it remains that the fetched turn
polls or presents a unit that decodes. -/

namespace Sys2Proof.Machine

/-! ### The positions of a block (R131, R247) -/

/-- The four stretches of a block: header, metadata, payload, end. -/
theorem block_position_cases {ci : BitVec 6} (h : ci.toNat ≤ 32) :
    ci.toNat = 0 ∨ ci.toNat = 1 ∨ (2 ≤ ci.toNat ∧ ci.toNat < 32) ∨ ci.toNat = 32 := by
  omega

section
variable {s : State}

/-- In BLK the header is due at chunk 0. -/
theorem atHeader_blk (h : s.upc = .blk) : s.atHeader = decide (s.ci.toNat = 0) := by
  simp [State.atHeader, h]

/-- In BLK the metadata is due at chunk 1. -/
theorem atMetadata_blk (h : s.upc = .blk) : s.atMetadata = decide (s.ci.toNat = 1) := by
  simp [State.atMetadata, h]

/-- In BLK a payload form is due at chunks 2 to 31 where the state selects it. -/
theorem payloadDue_blk (h : s.upc = .blk) (f : PayloadForm) : s.payloadDue Config.device f =
    decide ((2 ≤ s.ci.toNat ∧ s.ci.toNat < 32) ∧ s.payloadForm Config.device = f) := by
  rw [Bool.eq_iff_iff, State.payloadDue, Bool.and_eq_true, atPayload_iff, decide_eq_true_eq, decide_eq_true_eq]
  simp [h]

/-- In BLK the end is due after chunk 31. -/
theorem atEnd_blk (h : s.upc = .blk) : s.atEnd Config.device = decide (s.ci.toNat = 32) := by
  simp [State.atEnd, h]

end

/-- Settles O46: each stretch of the block excludes the conditions of the others, and among the payload chunks the state
selects one form. -/
theorem oneOperationAppliesInBlock : Obligations.OneOperationAppliesInBlock := by
  intro s hupc hci
  simp only [atHeader_blk hupc, atMetadata_blk hupc, payloadDue_blk hupc, atEnd_blk hupc]
  obtain h | h | ⟨hge, hlt⟩ | h := block_position_cases hci
  · simp [h]
  · simp [h]
  · have h0 : s.ci.toNat ≠ 0 := by omega
    have h1 : s.ci.toNat ≠ 1 := by omega
    have h32 : s.ci.toNat ≠ 32 := by omega
    cases hform : s.payloadForm Config.device <;> simp [h0, h1, h32, hge, hlt]
  · simp [h]

/-! ### No step stops on events of the spec (R119, R251) -/

/-- A turn that a step can answer: it polls, or it presents a unit of its port's format. -/
inductive Turn.Decodes : Turn → Prop where
  | poll (t : State) : Decodes (.poll t)
  | run {u : Presented} {i : Instr} (h : decode u.port u.bytes = .ok i) (t : State) : Decodes (.run u t)

/-- Every operation answers a next state in every state, so such a turn does. -/
theorem Turn.Decodes.exists_next {turn : Turn} (h : turn.Decodes) : ∃ t, runTurn decode exec turn = .next t := by
  cases h with
  | poll t => exact ⟨t, rfl⟩
  | run hdecode t => exact ⟨_, (runTurn_run hdecode).trans (exec_eq ..)⟩

/-- In a block of 512 bytes, at an index up to 32, the sequencer presents a whole chunk or the end of the block. -/
theorem sequencerTurn_decodes_blk {s : State} (hupc : s.upc = .blk) (hci : s.ci.toNat ≤ 32) (hlatch : s.Latched) :
    (sequencerTurn Config.device s).Decodes := by
  obtain ⟨d, hd, hlen⟩ := hlatch
  obtain h | h | ⟨hge, hlt⟩ | h := block_position_cases hci
  · rw [sequencerTurn_header hupc hd h]
    exact .run (decode_header (chunkOf_length hlen (by decide))) s
  · rw [sequencerTurn_metadata hupc hd h]
    exact .run (decode_metadata (chunkOf_length hlen (by decide))) s
  · rw [sequencerTurn_payload hupc hd hge hlt]
    exact .run (decode_payload _ (chunkOf_length hlen hlt)) s
  · rw [sequencerTurn_end hupc hd h]
    exact .run (i := .wrEnd) rfl s

/-- At every position that the invariant allows, the sequencer polls or presents a unit. -/
theorem sequencerTurn_decodes {s : State} (h : s.Positioned) : (sequencerTurn Config.device s).Decodes := by
  cases hupc : s.upc with
  | idle =>
    rw [sequencerTurn, hupc]
    exact .poll s
  | blk =>
    obtain ⟨hci, hlatch, -⟩ := (positioned_blk_iff hupc).mp h
    exact sequencerTurn_decodes_blk hupc hci hlatch
  | waitLa =>
    simp only [sequencerTurn, hupc]
    split
    · exact .run (i := .hsDoneLa) rfl s
    · exact .poll s
  | waitPg =>
    simp only [sequencerTurn, hupc]
    split
    · exact .run (i := .hsDonePg) rfl s
    · exact .poll s

/-- An event that an interface offers presents a unit of its format, or gives the turn to the sequencer. -/
theorem eventTurn_decodes {e : Event} {s : State} (he : e.offered = true) (h : s.Positioned) :
    (eventTurn Config.device e s).Decodes := by
  cases e with
  | wr lba d =>
    have hlen : d.length = 512 := by simpa [Event.offered] using he
    exact .run (decode_blockWrite lba hlen) s
  | rd lba => exact .run (decode_blockRead lba) s
  | hid p =>
    have hlen : p.length = 64 := by simpa [Event.offered] using he
    exact .run (decode_hidOut hlen) s
  | rx b => exact .run (decode_rx b) s
  | tick => exact .run (i := .flushTick) rfl s
  | relay => exact .run (i := .relay) rfl s
  | drain => exact .run (i := .drain) rfl s
  | wdt => exact .run (i := .wdtExpire) rfl s
  | por => exact .run (i := .por) rfl s
  | seq => exact sequencerTurn_decodes h
  | unit u bs => cases he

/-- From a state that meets the invariant, what the fetch finds to do can be answered. -/
theorem fetch_decodes {s : State} (h : s.Inv) : (fetch Config.device s).Decodes := by
  unfold fetch
  split
  · next e rest hnext =>
    obtain ⟨hmem, -⟩ := nextEvent_mem hnext
    exact eventTurn_decodes (h.events_offered e hmem) h.positioned
  · exact sequencerTurn_decodes h.positioned

/-- Settles O57: the fetched turn polls or decodes, and then the step answers. -/
theorem stepsNeverStopOnSpecEvents : Obligations.StepsNeverStopOnSpecEvents :=
  fun _ h => (fetch_decodes h).exists_next

/-! ### The position after an operation (R247) -/

/-- The sequencer stands at the position `p` of the table, which may leave `ci` open. -/
def State.StandsAt (p : Upc × Option (BitVec 6)) (t : State) : Prop := t.upc = p.1 ∧ ∀ c, p.2 = some c → t.ci = c

section
variable {t : State} {k : Upc}

/-- The table gives `upc` and `ci`. -/
theorem State.StandsAt.ofBoth {c : BitVec 6} (hupc : t.upc = k) (hci : t.ci = c) : t.StandsAt (k, some c) :=
  ⟨hupc, fun _ h => hci.trans (Option.some.inj h)⟩

/-- The table gives `upc` alone. -/
theorem State.StandsAt.ofUpc (hupc : t.upc = k) : t.StandsAt (k, none) := ⟨hupc, nofun⟩

end

/-- The effect of an enabled operation leaves the table's position: where it does not write `upc`, the place at which it
is enabled (`placeOf_holds`) is the table's, and a received byte and an emitted unit write neither, a reboot aside. -/
theorem effect_standsAt {i : Instr} {s : State} (hen : enabled i s = true) :
    (effect i s).StandsAt (positionAfter i s) := by
  have hplace := placeOf_holds hen
  cases i with
  | wrBegin _ _ | wrPayloadLast _ | hsDonePg | wdtExpire | por | reboot _ => exact .ofBoth rfl rfl
  | wrHdrLive _ | wrHdrSkip _ | wrHdrNomagic _ | wrPayloadSkip _ | wrPayloadMid _ => exact .ofBoth hplace rfl
  | wrMeta _ =>
    simp only [effect]
    split <;> exact .ofBoth hplace rfl
  | wrPayloadOpen _ =>
    simp only [effect, openPage_eq]
    exact .ofBoth rfl rfl
  | wrEnd =>
    simp only [effect]
    split <;> exact .ofUpc rfl
  | hsDoneLa =>
    simp only [effect, programPage_eq]
    exact .ofBoth rfl rfl
  | hidBininfo _ | hidInfo _ | hidUnknown _ _ => exact .ofUpc ((State.sendReply_upc ..).trans hplace)
  | drain =>
    simp only [effect, drainOne_eq]
    exact .ofUpc hplace
  | rdBoot | rdFat _ | rdRoot _ | rdData _ | rdZero _ | hidTunnel _ _ | flushTick | relay => exact .ofUpc hplace
  | reply body => exact .ofBoth (State.sendReply_upc ..) (State.sendReply_ci ..)
  | _ => exact .ofBoth rfl rfl

/-- Settles O45: an enabled operation has its effect, which leaves the table's position. -/
theorem positionMovesAsTabled : Obligations.PositionMovesAsTabled := by
  intro i s t hen hexec
  obtain rfl : effect i s = t := Host.Outcome.next.inj ((exec_of_enabled hen).symm.trans hexec)
  exact effect_standsAt hen

end Sys2Proof.Machine
end

section
/-! The proofs about `60_exceptions.md`: the watchdog's two reboots (R263, R264) and POR (R290), each the effect of an
operation that the state, or nothing, enables. What a reboot leaves is O2's. -/

namespace Sys2Proof.Machine

/-- An armed watchdog expires into a reboot whose cause is the arming (R263, R264). -/
theorem exec_wdtExpire_of_armed {s : State} (h : s.wdt ≠ .off) :
    exec .wdtExpire s = .next (s.reboot (if s.wdt = .hs then .hsTimeout else .done)) :=
  exec_of_enabled ((enabled_wdtExpire_iff s).mpr h)

/-- Settles O40: either arming enables the expiry and selects its cause; POR is enabled in every state. -/
theorem resetCausesReboot : Obligations.ResetCausesReboot := by
  intro s
  refine ⟨fun hhs => ?handshake, fun hdone => ?completion, exec_of_enabled (i := .por) rfl⟩
  case handshake =>
    have harmed : s.wdt ≠ .off := by simp [hhs]
    rw [exec_wdtExpire_of_armed harmed, if_pos hhs]
  case completion =>
    have harmed : s.wdt ≠ .off := by simp [hdone]
    have hnot : s.wdt ≠ .hs := by simp [hdone]
    rw [exec_wdtExpire_of_armed harmed, if_neg hnot]

end Sys2Proof.Machine
end

section
/-! The proofs about choices of the model: an operation where it is not enabled (log 2), the tunnel's count above 63
(`93_implementation_defined.md`, log 8), the events that the fetch takes (log 1), and the emitted units as operations of
their own (`30_encoding.md` R99 to R109, log 5). An emitted unit has no condition in R92, so its rule is its effect, in
every state. -/

namespace Sys2Proof.Machine

/-! ### Operations that are not enabled (R92, R263) -/

/-- An operation that is not enabled leaves the state as it is. -/
theorem exec_of_not_enabled {i : Instr} {s : State} (h : enabled i s = false) : exec i s = .next s := by
  rw [exec_eq, if_neg (by simp [h])]

/-- Settles O44: of the two cases of `exec_eq`, the one where the condition fails. -/
theorem disabledOperationsChangeNothing : Obligations.DisabledOperationsChangeNothing :=
  fun _ _ hdisabled => exec_of_not_enabled hdisabled

/-! ### The tunnel's count (R231, U3) -/

/-- A count that is not below the number of the packet's bytes names all of them. -/
theorem tunnelBytes_of_length_le {k : BitVec 7} {body : List Byte} (h : body.length ≤ k.toNat) :
    tunnelBytes k body = body := List.take_of_length_le h

/-- Settles O32: a count above 63 names the packet's 63 bytes, and the ring takes those it has room for. -/
theorem tunnelCountAboveThePacketTakesIt : Obligations.TunnelCountAboveThePacketTakesIt := by
  intro s k body hidle hlen hcount hcap
  have hall : tunnelBytes k body = body := tunnelBytes_of_length_le (by omega)
  rw [exec_hidTunnel k body hidle hcap, hall]

/-! ### The events that the fetch takes (R23, R80) -/

section
variable {s : State} {e : Event} {rest : List Event}

/-- The next event has its turn, in the state with the events left. -/
theorem fetch_of_next (hnext : nextEvent (!s.isIdle) s.events = some (e, rest)) :
    fetch Config.device s = eventTurn Config.device e { s with events := rest } := by
  rw [fetch, hnext]

/-- Between tasks the first event has its turn, whichever it is. -/
theorem fetch_of_idle (hidle : s.upc = .idle) (hev : s.events = e :: rest) :
    fetch Config.device s = eventTurn Config.device e { s with events := rest } := by
  apply fetch_of_next
  rw [hev, (isIdle_iff s).mpr hidle, Bool.not_true, nextEvent_idle]

/-- At every position a first event that is no host transaction has its turn. -/
theorem fetch_of_not_waits (hwaits : e.waits = false) (hev : s.events = e :: rest) :
    fetch Config.device s = eventTurn Config.device e { s with events := rest } := by
  apply fetch_of_next
  rw [hev, nextEvent_of_not_waits _ _ hwaits]

end

/-- Settles O12: a host transaction has its turn between tasks, any other event at every position, and each event's turn
is a case of `eventTurn`. -/
theorem fetchTakesOfferedEvents : Obligations.FetchTakesOfferedEvents := by
  intro s rest
  refine ⟨fun lba d => ?wr, fun lba => ?rd, fun p => ?hid, fun b => ?rx, ?tick, ?relay, ?drain, ?wdt, ?por, ?seq⟩
  case wr | rd | hid => exact fun hidle hev => fetch_of_idle hidle hev
  case rx | tick | relay | drain | wdt | por => exact fun hev => fetch_of_not_waits rfl hev
  case seq => exact fetch_seq

/-! ### The emitted units (R99 to R109, R191, R196, R262) -/

/-- Settles O41: the effect of each unit is its bytes on `serOut`, SYNC's with the watchdog by `armHandshake_eq`. -/
theorem emittedSerialUnitBytes : Obligations.EmittedSerialUnitBytes := by
  intro s a size term c
  refine ⟨?loadAddress, ?progPage, ?data, ?sync⟩
  case loadAddress => exact exec_of_enabled (i := .loadAddress a) rfl
  case progPage => exact exec_of_enabled (i := .progPage size term) rfl
  case data => exact exec_of_enabled (i := .data c) rfl
  case sync =>
    rw [exec_of_enabled (i := .sync) rfl, ← armHandshake_eq]
    rfl

/-- Settles O42: the effect of each is its event with the line released, and the reboot of its cause. -/
theorem emittedResetEvents : Obligations.EmittedResetEvents := by
  intro s cause
  exact ⟨exec_of_enabled (i := .resetStart) rfl, exec_of_enabled (i := .resetFinish) rfl,
    exec_of_enabled (i := .reboot cause) rfl⟩

/-- RELAY_PACKET sends its framed packet, and nothing else changes (R109). -/
theorem exec_relayPacket (body : List Byte) (s : State) :
    exec (.relayPacket body) s = .next (s.hidSend (framedPacket Config.device body)) :=
  exec_of_enabled (i := .relayPacket body) rfl

/-- Settles O43: both send the framed packet of the bytes, which `framedPacket_eq` writes out. -/
theorem outboundPacketBytes : Obligations.OutboundPacketBytes := by
  intro s body hlen q
  have hpacket : framedPacket Config.device body = q := framedPacket_eq hlen
  refine ⟨exec_reply (i := .reply body) rfl rfl hlen hpacket, ?_⟩
  rw [exec_relayPacket, hpacket]
  rfl

end Sys2Proof.Machine
end
